-- ==== Sys2Proof/Word.lean ====
section
/-!
DEFINITION. The word types of the KS46 and their plainest arithmetic: bytes, cap-lamp tags, saturating and
wrapping counters (manual 4.4), and the one-place update of a fixed table.
-/

namespace Sys2Proof

/-- One byte of a frame or of a settings record (chapter 12). -/
abbrev Byte := BitVec 8

/-- A 24-bit cap-lamp tag (4.1). -/
abbrev Tag := BitVec 24

/-- The largest value of the 16-bit counters. -/
def max16 : Nat := 65535

/-- A counter called saturating "stops at its maximum" (manual 4.4). -/
def satInc (max n : Nat) : Nat := if n < max then n + 1 else max

/-- A counter that wraps to 0 after `modulus - 1`. -/
def wrapInc (modulus n : Nat) : Nat := (n + 1) % modulus

/-- Change the one entry `i` of a fixed table. -/
def upd {α : Type} {n : Nat} (v : Vector α n) (i : Fin n) (f : α → α) : Vector α n :=
  v.set i.1 (f v[i.1]) i.2

/-- Change every entry of a fixed table. -/
def updAll {α : Type} {n : Nat} (v : Vector α n) (f : Fin n → α → α) : Vector α n :=
  (List.finRange n).foldl (fun w i => upd w i (f i)) v

end Sys2Proof
end

