-- ==== Sys2Proof/Syntax.lean ====
section
/-!
DEFINITION. The commands of the KS46: one constructor of `Instr` for each row of spec/opcode_table.json.
A client-port request row names the port that takes the request at the head of its request queue (R156); the
request's own arguments are the body bytes of that queued frame (12.1), so they stand in the state.
-/
namespace Sys2Proof

/-- The two field lines: Field Line 1 (inbye) and Field Line 2 (outbye) (manual 4.1). -/
inductive LineNo where
  | one
  | two
deriving DecidableEq, Repr

/-- The three client ports (manual 2.2). -/
inductive PortId where
  | a
  | b
  | l
deriving DecidableEq, Repr

/-- Zones 0 to 15. -/
abbrev Zone := Fin 16
/-- Sensor points 0 to 95. -/
abbrev PointNo := Fin 96
/-- Channels of a sensor head, 0 to 3. -/
abbrev Channel := Fin 4
/-- Stations by their index in the STATIONS section, (line - 1) * 31 + address - 1 (12.3). -/
abbrev StationNo := Fin 62
/-- Road segments 0 to 23. -/
abbrev SegNo := Fin 24
/-- Truck numbers 0 to 15. -/
abbrev TruckNo := Fin 16
/-- Refuges 0 to 3. -/
abbrev RefugeNo := Fin 4
/-- Interlock entries 0 to 23. -/
abbrev EntryNo := Fin 24
/-- Trip outputs and signal outputs 0 to 7. -/
abbrev OutNo := Fin 8

/-- The commands, one for each row of spec/opcode_table.json, in the table's order. -/
inductive Instr where
  /-- GAP_END (R3): the gap of a line reaches its end. -/
  | gapEnd (ln : LineNo)
  /-- REPLY_TAKEN (R6): the last byte of a reply frame arrives; `bytes` is the whole frame. -/
  | replyTaken (ln : LineNo) (bytes : List Byte)
  /-- REPLY_TIMEOUT (R6): the 15 ms reply timeout of the poll in flight expires. -/
  | replyTimeout (ln : LineNo)
  /-- CAL_TIMEOUT (R38): the 60 s calibration timeout of a line's slot expires. -/
  | calTimeout (ln : LineNo)
  /-- STALE_LIMIT_EXPIRY (R48): the stale timer of a point expires. -/
  | staleLimitExpiry (pt : PointNo)
  /-- UNSEEN_ADVANCE (R70): a whole second of a roster record's unseen time passes. -/
  | unseenAdvance (tag : Tag)
  /-- CALL_AGE_ADVANCE (R86): a whole second of a call's age passes. -/
  | callAgeAdvance (number : Nat)
  /-- TRUCK_LOSS_TIMER_EXPIRY (R110): the loss timer of a truck expires. -/
  | truckLossTimerExpiry (t : TruckNo)
  /-- BYTE_GAP_TIMEOUT (R152): more than 50 ms pass after a byte of an incomplete frame. -/
  | byteGapTimeout (p : PortId)
  /-- FRAME_TAKEN (R152): the bytes of a frame arrive on a port, the last of them completing it. -/
  | frameTaken (p : PortId) (bytes : List Byte)
  /-- SUPERVISION_TIMER_EXPIRY (R153): a port's supervision timer expires. -/
  | supervisionTimerExpiry (p : PortId)
  /-- NOTICE_TRANSMITTED (R159): the transmission of the notice at the head of a port's queue ends. -/
  | noticeTransmitted (p : PortId)
  /-- READ (R157). -/
  | read (p : PortId)
  /-- FIND_TAG (R63). -/
  | findTag (p : PortId)
  /-- SET_TIME (R158). -/
  | setTime (p : PortId)
  /-- KEEPALIVE (R153). -/
  | keepalive (p : PortId)
  /-- ACK_ALARM (R54). -/
  | ackAlarm (p : PortId)
  /-- RESET_TRIP naming a zone (R56). -/
  | resetTripZone (p : PortId)
  /-- RESET_TRIP naming ALL (R57). -/
  | resetTripAll (p : PortId)
  /-- RESET_TRIP naming an output (R58). -/
  | resetTripOutput (p : PortId)
  /-- FORCE_TRIP (R58). -/
  | forceTrip (p : PortId)
  /-- TAKE_CALL (R90). -/
  | takeCall (p : PortId)
  /-- RELEASE_CALL (R91). -/
  | releaseCall (p : PortId)
  /-- CLOSE_CALL (R92). -/
  | closeCall (p : PortId)
  /-- DECLARE (R130). -/
  | declare (p : PortId)
  /-- STAND_DOWN (R132). -/
  | standDown (p : PortId)
  /-- BLOCK_SEGMENT (R114). -/
  | blockSegment (p : PortId)
  /-- OPEN_SEGMENT (R114). -/
  | openSegment (p : PortId)
  /-- CLEAR_TRUCK (R111). -/
  | clearTruck (p : PortId)
  /-- CAL_START (R35). -/
  | calStart (p : PortId)
  /-- EDIT_OPEN (R164). -/
  | editOpen (p : PortId)
  /-- EDIT_WRITE (R165). -/
  | editWrite (p : PortId)
  /-- EDIT_COMMIT (R166). -/
  | editCommit (p : PortId)
  /-- EDIT_CANCEL (R165). -/
  | editCancel (p : PortId)
  /-- EDIT_EXPIRED (R165): the 120 s edit inactivity timer expires. -/
  | editExpired
  /-- CHECK_CLEAR (R169). -/
  | checkClear (p : PortId)
  /-- FULL_RESET (R174). -/
  | fullReset (p : PortId)
  /-- INTEGRITY_PASS_START (R168): the integrity period passes. -/
  | integrityPassStart
  /-- INTEGRITY_PASS_COMPLETE (R168): the pass in flight completes. -/
  | integrityPassComplete
  /-- CLOCK_SECOND (R158): the 100th tick of a second. -/
  | clockSecond
  /-- MAINS_OK_LOW (R171). -/
  | mainsOkLow
  /-- MAINS_OK_HIGH (R171). -/
  | mainsOkHigh
  /-- BATT_LOW_ASSERTED (R171). -/
  | battLowAsserted
  /-- BATT_LOW_CLEARED (R171). -/
  | battLowCleared
  /-- SAVE_COPY (R172): stage 2 of the save. -/
  | saveCopy
  /-- SAVE_COMPLETE (R172): the completion mark is written. -/
  | saveComplete
  /-- POWER_ON (R173): supply returns to a part that had lost it. -/
  | powerOn
  /-- SELF_TEST_COMPLETE (R173): the table-memory test ends; `failed` is what it found. -/
  | selfTestComplete (failed : Bool)
  /-- RESTORE_COMPLETE (R173): the check over the retained store ends. -/
  | restoreComplete
  /-- FRAME_BYTE_ARRIVES (R152): one byte arrives on a client port. -/
  | frameByteArrives (p : PortId) (byte : Byte)
  /-- FULL_RESET_COLD_START (R174): the transmission of the DONE response to a FULL_RESET ends. -/
  | fullResetColdStart
deriving DecidableEq, Repr

end Sys2Proof
end

