-- ==== Sys2Proof/Decode.lean ====
section
/-!
DEFINITION. The command that a word spells by the bits of spec/opcode_table.json. The table gives no row any bits (the
commands of this block are events and queued frames, not words), so no word spells one. The frames of the ports are
read in `Machine/Ports.lean` and spelled out by `Machine.rowOf`.
-/
namespace Sys2Proof

/-- No row of the table has bits, so no word spells a command. -/
def decodeTableWord (_nbits _w : Nat) : Option Instr := none

end Sys2Proof
end

