-- ==== Sys2Proof/Machine/Types.lean ====
section
/-!
DEFINITION. The records of the KS46 as plain data: what each block of the manual's chapter 2 overview holds, the
values of the settings, the notices, the requests' results and what a READ returns. `Machine/State.lean` puts the
records together. Times in `Secs` are Section Clock seconds; times in `Tick` are counts of the 10 ms tick (R158).
-/
namespace Sys2Proof.Machine

/-- A Section Clock value in seconds, 0 to 2^32 - 1 (4.2). -/
abbrev Secs := Nat
/-- A moment counted on the Section Clock's 10 ms tick, on which every timer is counted (9.4). -/
abbrev Tick := Nat
/-- One settings record as its bytes, spare fields included (12.3). -/
abbrev Rec := List Byte

/-! ### Settings values (chapters 2, 3, 8, 10 and 12.3) -/

inductive GasKind where
  | ch4 | co | o2 | co2 | airflow
deriving DecidableEq, Repr

/-- The alarm levels NONE < WARN < TRIP < WITHDRAW. -/
inductive Level where
  | none | warn | trip | withdraw
deriving DecidableEq, Repr

/-- The three levels that have a threshold and an alarm record. -/
inductive Grade where
  | warn | trip | withdraw
deriving DecidableEq, Repr

inductive StationKind where
  | sensorHead | zoneReader | roadBeacon | refugePanel
deriving DecidableEq, Repr

inductive ReaderSubtype where
  | ordinary | exitReader | refuge
deriving DecidableEq, Repr

/-- The withdrawal states NORMAL < ALERT < WITHDRAW (7.4). -/
inductive WState where
  | normal | alert | withdraw
deriving DecidableEq, Repr

inductive Door where
  | opened | closed | isSealed | unknown
deriving DecidableEq, Repr

/-- Patterns of a refuge beacon (7.3). A signal output uses the last three (8.7). -/
inductive Pattern where
  | off | steady | pulse1Hz | pulseQuarter
deriving DecidableEq, Repr

/-- The settings of one station (12.3, STATIONS 0 to 61). -/
structure StationCfg where
  kind    : Option StationKind
  subtype : ReaderSubtype
  zone    : Zone
deriving DecidableEq, Repr

/-- The settings part of a point (2.1). -/
structure PointCfg where
  station    : Option StationNo
  channel    : Channel
  kind       : GasKind
  zone       : Zone
  zero       : Nat
  span       : Nat
  weight     : Nat
  warn       : Option Nat
  trip       : Option Nat
  withdraw   : Option Nat
  hysteresis : Nat
  clearDwell : Nat
  failSafe   : Bool
  staleLimit : Nat
  driftTol   : Nat
deriving DecidableEq, Repr

/-- The compensation table of one gas kind (2.1.1): 8 T points, 4 C points, 32 cells row by row; a cell that holds
no factor is UNSUPPORTED. -/
structure CompTable where
  ts    : List Int
  cs    : List Nat
  cells : List (Option Nat)
deriving DecidableEq, Repr

/-- The settings of one road segment (6.1). -/
structure SegCfg where
  zone   : Zone
  length : Nat
  limit  : Nat
deriving DecidableEq, Repr

/-- The settings of one refuge (7.1). -/
structure RefugeCfg where
  zone     : Option Zone
  capacity : Nat
deriving DecidableEq, Repr

/-- A condition of an interlock entry (R139); `never` stands for a condition kind of 0 or a record that names no
condition, and STATION_LOST may name no station (12.3), which only a disabled entry holds. -/
inductive Condition where
  | never
  | zoneAt (mask : Nat) (level : Grade)
  | pointBeyond (pt : PointNo) (value : Nat) (ge : Bool)
  | stationLost (st : Option StationNo)
  | doorIs (r : RefugeNo) (door : Door)
  | unaccountedAbove (n : Nat)
  | withdrawalAt (w : WState)
  | truckLostAny
deriving DecidableEq, Repr

/-- An action of an interlock entry (8.3). Masks are bit fields, bit n for member n (chapter 12). -/
inductive Action where
  | nothing
  | signal (mask : Nat)
  | block (mask : Nat)
  | trip (mask : Nat)
  | raise (target : WState)
  | call (zone : Zone)
  | notice
deriving DecidableEq, Repr

/-- The settings part of an interlock entry (8.1). -/
structure EntryCfg where
  enabled   : Bool
  condition : Condition
  action    : Action
deriving DecidableEq, Repr

/-- The settings of one signal output (8.7). -/
structure OutputCfg where
  onAlert     : Bool
  onWithdraw  : Bool
  onUnack     : Bool
  onInterlock : Bool
  unackZones  : Nat
  pattern     : Pattern
deriving DecidableEq, Repr

/-- The settings image: twelve sections of records, each record its bytes (10.1, 12.3). -/
structure Image where
  stations     : List Rec
  points       : List Rec
  compensation : List Rec
  dwell        : List Rec
  zones        : List Rec
  road         : List Rec
  trucks       : List Rec
  refuges      : List Rec
  interlock    : List Rec
  outputs      : List Rec
  timing       : List Rec
  faultEnables : List Rec
deriving DecidableEq, Repr

/-- The failed check that a refused EDIT_COMMIT names (R166). SPARE names its field, here by the offset of the byte. -/
inductive Check where
  | spare (offset : Nat) | range | order | clearBand | reference | binding
deriving DecidableEq, Repr

/-! ### Field lines and stations (chapter 1) -/

inductive LineState where
  | idle | polling | gap | stopped
deriving DecidableEq, Repr

inductive StationState where
  | unpolled | online | missed | lost | skipped
deriving DecidableEq, Repr

inductive LampKind where
  | acknowledged | busy
deriving DecidableEq, Repr

/-- A lamp item of R14. -/
structure LampItem where
  tag  : Tag
  kind : LampKind
deriving DecidableEq, Repr

inductive DemandKind where
  | proceed | stop | engineStop
deriving DecidableEq, Repr

/-- The demand as the truck sees it: kind, cap and run end (R107). -/
structure DemandView where
  kind   : DemandKind
  cap    : Nat
  runEnd : Option SegNo
deriving DecidableEq, Repr

/-- A truck demand as a poll request carried it (R5, R15). -/
structure CarriedDemand where
  truck    : TruckNo
  identity : Nat
  demand   : DemandView
deriving DecidableEq, Repr

/-- One entry of the poll list in use: a station and the kind the snapshot took (R2). -/
structure PollEntry where
  station : StationNo
  kind    : StationKind
deriving DecidableEq, Repr

/-- The poll in flight: the polled station, and the items the request carried, which R5 says are recorded.
`dueSkip` marks a station that came due to become SKIPPED during this poll (R12). -/
structure Poll where
  station : StationNo
  kind    : StationKind
  zero    : Option Channel
  lamps   : List LampItem
  demands : List CarriedDemand
  beacon  : Option Pattern
  dueSkip : Bool
deriving DecidableEq, Repr

/-- A calibration in flight (R16); `startTick` times the 60 s timeout on the tick (R35). -/
structure Calibration where
  point     : PointNo
  station   : StationNo
  channel   : Channel
  start     : Secs
  startTick : Tick
deriving DecidableEq, Repr

/-- The line record of 1.1. -/
structure LineRec where
  state    : LineState
  pollList : List PollEntry
  cursor   : Nat
  gapStart : Option Tick
  slot     : Option Calibration
  unmapped : Nat
  poll     : Option Poll
deriving DecidableEq, Repr

structure Lines where
  one : LineRec
  two : LineRec
deriving DecidableEq, Repr

/-- The station record of 1.4, with a reader's lamp list (R14). `counted` is the kind for which the record's counters
count: the kind it had at its line's last snapshot, or when it was created (R13). -/
structure StationRec where
  kind      : StationKind
  counted   : StationKind
  subtype   : ReaderSubtype
  zone      : Zone
  state     : StationState
  misses    : Nat
  replies   : Nat
  bad       : Nat
  lastReply : Option Secs
  lamps     : List LampItem
deriving DecidableEq, Repr

/-! ### Points (chapters 2 and 3) -/

/-- The flags of a point (2.1). -/
structure PointFlags where
  degraded  : Bool
  tempClamp : Bool
  overRange : Bool
  drift     : Bool
  cal       : Bool
  stale     : Bool
  suspended : Bool
deriving DecidableEq, Repr

/-- The state of one level of a point (3.1). -/
inductive LevelState where
  | idle
  | pending (count required : Nat)
  | qualified
  | clearing (count : Nat)
deriving DecidableEq, Repr

/-- The three level states of a point. -/
structure LevelStates where
  warn     : LevelState
  trip     : LevelState
  withdraw : LevelState
deriving DecidableEq, Repr

/-- The runtime part of a point (2.1), its level states (3.1), and its stale TRIP flag and stale timer (R48).
`staleTick` is the tick at which the point became STALE. -/
structure PointRt where
  lastRaw    : Option Nat
  lastTemp   : Option Int
  v1         : Option Nat
  factor     : Option Nat
  v2         : Option Nat
  s          : Option Nat
  rise       : Option Nat
  flags      : PointFlags
  reseed     : Bool
  rejected   : Nat
  levels     : LevelStates
  lastSample : Option Secs
  staleSince : Option Secs
  staleTick  : Option Tick
  staleTrip  : Bool
deriving DecidableEq, Repr

/-! ### Zones, alarms and trip outputs (chapter 3) -/

/-- The zone record of 3.3; its contributing points and stale sources are computed from the points. -/
structure ZoneRec where
  level     : Level
  latch     : Bool
  latchedAt : Option Secs
deriving DecidableEq, Repr

/-- The state of an alarm record; the acknowledging port is present only in ACTIVE_ACKED (3.4). -/
inductive AlarmState where
  | activeUnack
  | activeAcked (by_ : PortId)
  | clearedUnack
deriving DecidableEq, Repr

/-- The alarm record of 3.4. -/
structure AlarmRec where
  zone   : Zone
  level  : Grade
  state  : AlarmState
  raised : Secs
  count  : Nat
deriving DecidableEq, Repr

/-- A trip output of 3.7. `holders n` says that ACTIVE entry n's TRIP action holds it (R142). -/
structure TripOut where
  isOpen    : Bool
  forced    : Bool
  faultHold : Bool
  holders   : Vector Bool 24
deriving DecidableEq, Repr

/-- The conditions of R59 that hold a trip output open, as R61's notice and READ list them. -/
structure TripConds where
  zones      : List Zone
  entries    : List EntryNo
  forced     : Bool
  notRunning : Bool
  supply     : Bool
deriving DecidableEq, Repr

/-! ### Roster (chapter 4) -/

/-- A roster record's state; the refuge is present only in IN_REFUGE (4.1). -/
inductive MinerState where
  | present
  | missing
  | inRefuge (r : RefugeNo)
  | exited
deriving DecidableEq, Repr

/-- The roster record of 4.1. `unseenFrom` is the tick from which the running second of `unseen` is counted (R70). -/
structure RosterRec where
  tag        : Tag
  state      : MinerState
  zone       : Zone
  entry      : Secs
  lastSeen   : Secs
  unseen     : Nat
  unseenFrom : Tick
  openCall   : Option Nat
deriving DecidableEq, Repr

/-- The roster and its figures (4.1). -/
structure Roster where
  records     : List RosterRec
  overflow    : Nat
  evictions   : Nat
  ignored     : Nat
  full        : Bool
  unaccounted : Nat
deriving DecidableEq, Repr

/-- The figures of a MUSTER notice (R77). -/
structure MusterFigures where
  unaccounted : Nat
  missing     : Nat
  inRefuge    : Nat
  overflow    : Nat
deriving DecidableEq, Repr

/-! ### Calls (chapter 5) -/

/-- ROUTINE < URGENT < EMERGENCY (5.1). -/
inductive CallKind where
  | routine | urgent | emergency
deriving DecidableEq, Repr

/-- A call's state; the taking port is present only in TAKEN (5.1). -/
inductive CallState where
  | waiting
  | offered
  | taken (p : PortId)
deriving DecidableEq, Repr

/-- The call record of 5.1. `ageFrom` is the tick from which the running second of `age` is counted (R86). -/
structure Call where
  number  : Nat
  tag     : Option Tag
  zone    : Zone
  kind    : CallKind
  state   : CallState
  raised  : Secs
  order   : Nat
  age     : Nat
  ageFrom : Tick
  offers  : Nat
deriving DecidableEq, Repr

/-- The call queue in queue order (R80), with its figures. `nextOrder` is the next raise order. -/
structure CallQueue where
  calls      : List Call
  nextNumber : Nat
  nextOrder  : Nat
  dropped    : Nat
  refused    : Nat
deriving DecidableEq, Repr

/-- What every call notice carries of the call (5.3.1). -/
structure CallInfo where
  number : Nat
  tag    : Option Tag
  zone   : Zone
  kind   : CallKind
deriving DecidableEq, Repr

inductive TakenEvent where
  | taken | released | closed | raised
deriving DecidableEq, Repr

/-! ### Haulage (chapter 6) -/

inductive Direction where
  | inbye | outbye
deriving DecidableEq, Repr

/-- The runtime part of a segment (6.1). `interlock n` says that entry n is in its INTERLOCK set. -/
structure Segment where
  holder     : Option TruckNo
  gas        : Bool
  interlock  : Vector Bool 24
  manual     : Bool
  unverified : Bool
deriving DecidableEq, Repr

inductive TruckState where
  | unknown | active | lost
deriving DecidableEq, Repr

/-- A truck's run: its current segment and its run end, present together (6.2). -/
structure Run where
  cur  : SegNo
  last : SegNo
deriving DecidableEq, Repr

/-- The causes of a partial or refused grant (R102, R104). -/
inductive GrantCause where
  | settingsFault | engineStop | roadEnd | withdraw | held | blocked
deriving DecidableEq, Repr

inductive GrantOutcome where
  | full
  | part (c : GrantCause)
  | refused (c : GrantCause)
deriving DecidableEq, Repr

/-- The grant result of 6.2. -/
structure Grant where
  asked   : Nat
  outcome : GrantOutcome
deriving DecidableEq, Repr

/-- The truck record of 6.2. INTRUSION is set exactly while `intruded` is present; `intrudedHolder` is that segment's
holder at the latest report, against which R101 compares. `heardTick` is the tick of the latest accepted report,
from which the loss timer runs while the truck is ACTIVE (R110). -/
structure TruckRec where
  state          : TruckState
  run            : Option Run
  reported       : Option SegNo
  position       : Nat
  speed          : Nat
  dir            : Direction
  demand         : Option DemandKind
  cap            : Nat
  grant          : Grant
  overspeed      : Bool
  clamped        : Bool
  posClamped     : Bool
  intruded       : Option SegNo
  intrudedHolder : Option TruckNo
  lastHeard      : Option Secs
  lastBeacon     : Option StationNo
  heardTick      : Tick
deriving DecidableEq, Repr

/-- The figures of the Haulage Controller (6.2). -/
structure RoadFigures where
  unknownTrucks : Nat
  badReports    : Nat
  conflicts     : Nat
deriving DecidableEq, Repr

/-! ### Refuges and withdrawal (chapter 7) -/

/-- The runtime part of a refuge record (7.1). -/
structure RefugeRec where
  door         : Door
  doorSince    : Option Secs
  airLow       : Bool
  batteryLow   : Bool
  doorFaults   : Nat
  occupants    : Nat
  overCapacity : Bool
  impaired     : Bool
  pattern      : Pattern
deriving DecidableEq, Repr

/-- The cause of the last change of the withdrawal state, with its detail (R128). -/
inductive Cause where
  | zoneTrip (z : Zone)
  | zoneWithdraw (z : Zone)
  | isolated
  | doorSealed (r : RefugeNo)
  | declared (p : PortId)
  | interlock (n : EntryNo)
  | standDown (p : PortId)
deriving DecidableEq, Repr

/-- The withdrawal record of 7.4. Its isolated field is the condition of R155 and its unaccounted field the roster's
count; each is held once, at its owner. -/
structure Withdrawal where
  state : WState
  since : Secs
  cause : Option Cause
deriving DecidableEq, Repr

/-! ### Interlock entries (chapter 8) -/

/-- The runtime part of an interlock entry (8.1). `rebuilding` is set only inside a commit, from the moment its image
is in effect to the entry's rebuild (R145). -/
structure EntryRt where
  active     : Bool
  fired      : Nat
  lastFired  : Option Secs
  rebuilding : Bool
deriving DecidableEq, Repr

/-- A signal output (8.7): its state and the ACTIVE entries whose SIGNAL action names it. -/
structure SignalOut where
  on      : Bool
  holders : Vector Bool 24
deriving DecidableEq, Repr

/-- The eight fault causes of R150, in the table's order. -/
inductive FaultCause where
  | settingsFault | tableTestFail | restoreFault | stationLostAny | trunkPortDown | isolated | rosterFull | clockUnset
deriving DecidableEq, Repr

/-! ### Supply and starts (chapter 11) -/

inductive SupplyState where
  | mains | battery | holdup | dormant
deriving DecidableEq, Repr

inductive Phase where
  | selfTest | restore | unconfigured | running
deriving DecidableEq, Repr

inductive StartKind where
  | cold | warm
deriving DecidableEq, Repr

inductive StartCause where
  | powerOn | holdupRestart | fullReset
deriving DecidableEq, Repr

/-- The start record of chapter 11, with the count of calls lost that the RESTART notice carries (R173). -/
structure StartRec where
  kind          : StartKind
  cause         : StartCause
  tableTestFail : Bool
  restoreFault  : Bool
  callsLost     : Nat
deriving DecidableEq, Repr

/-- The retained items of R172. -/
structure Saved where
  image       : Option Image
  reference   : Option (BitVec 32)
  records     : List RosterRec
  alarms      : List AlarmRec
  latches     : Vector (Bool × Option Secs) 16
  forced      : Vector Bool 8
  withdrawal  : Withdrawal
  holders     : Vector (Option TruckNo) 24
  manual      : Vector Bool 24
  trucks      : Vector TruckRec 16
  refuges     : Vector (Bool × Bool × Nat) 4
  firings     : Vector (Nat × Option Secs) 24
  seconds     : Secs
deriving DecidableEq, Repr

/-- The hold-up store: the retained tables, the count of calls lost, the check value and the completion mark. -/
structure Store where
  data      : Option Saved
  callsLost : Nat
  check     : BitVec 32
  mark      : Bool
deriving DecidableEq, Repr

/-- The stages of a hold-up save (R172): none, waiting for both lines, or writing a copy taken. -/
inductive SaveStage where
  | none
  | quiet
  | writing (copy : Saved) (callsLost : Nat)
deriving DecidableEq, Repr

/-! ### Notices, requests and responses (chapter 9) -/

/-- The causes of a CAL_FAILED notice (R37, R38). -/
inductive CalCause where
  | resultRange | timeout | stationLost | stationSkipped | holdup
deriving DecidableEq, Repr

/-- The bodies of the notices (9.5), each with what its rule names. A field a rule does not name is absent. -/
inductive Notice where
  /-- ALARM (R52 to R54): `state` absent says REMOVED. -/
  | alarm (z : Zone) (level : Grade) (state : Option AlarmState) (ackedBy : Option PortId) (count : Option Nat)
  /-- ZONE (R51). -/
  | zone (z : Zone) (old new : Level)
  /-- TRIP for a latch (R55). -/
  | tripLatch (z : Zone) (set : Bool)
  /-- TRIP for a change of a forced flag (R58). -/
  | tripForce (k : OutNo) (isOpen forced : Bool)
  /-- TRIP for a change of an output (R61). -/
  | tripOutput (k : OutNo) (isOpen : Bool) (conds : TripConds)
  /-- CALL_OFFER (5.3.1): `offered` is OFFERED, otherwise WAITING. -/
  | callOffer (c : CallInfo) (offered : Bool) (offers : Nat)
  /-- CALL_TAKEN (5.3.1). -/
  | callTaken (c : CallInfo) (event : TakenEvent) (p : PortId)
  /-- CALL_DROPPED (R85). -/
  | callDropped (c : CallInfo)
  /-- MUSTER (R77). -/
  | muster (f : MusterFigures)
  /-- WITHDRAWAL (R128). -/
  | withdrawal (old new : WState) (cause : Option Cause) (since : Secs) (unaccounted : Nat)
  /-- STATION (R8, R10, R12, R13). -/
  | station (st : StationNo) (state : StationState) (misses : Option Nat)
  /-- TRUCK (R109), the record as it stands. -/
  | truck (t : TruckNo) (state : TruckState) (run : Option Run) (demand : Option DemandKind) (cap : Nat)
      (overspeed intrusion clamped posClamped : Bool)
  /-- ROAD_CONFLICT (R101): the intruder, the segment, its holder and the holder's run. -/
  | roadConflict (t : TruckNo) (seg : SegNo) (holder : TruckNo) (run : Option Run)
  /-- CAL_DONE (R37). -/
  | calDone (pt : PointNo) (old new : Nat)
  /-- CAL_FAILED (R37, R38). -/
  | calFailed (pt : PointNo) (cause : CalCause)
  /-- SETTINGS with the event COMMITTED (R167). -/
  | settingsCommitted (p : PortId) (reference : BitVec 32)
  /-- SETTINGS with the event EDIT_EXPIRED (R165). -/
  | settingsEditExpired
  /-- SETTINGS with the event FAULT (R169). -/
  | settingsFault (result : BitVec 32)
  /-- SETTINGS with the event CLEARED (R169). -/
  | settingsCleared
  /-- INTERLOCK (R143). -/
  | interlock (n : EntryNo) (condition : Condition) (fired : Nat) (last : Option Secs)
  /-- PORT (R153, R154). -/
  | port (p : PortId) (up : Bool)
  /-- SUPPLY (R171). -/
  | supply (old new : SupplyState)
  /-- RESTART (R173). -/
  | restart (r : StartRec)
deriving DecidableEq, Repr

/-- The reasons of a REFUSED result (12.1), in their order. -/
inductive Reason where
  | stationNotOnline | inAlarm | causePersists | notOffered | notHolder | truckActive | stateChanged | withdrawing
  | invalidSettings | roadInUse | noEdit | mismatch
deriving DecidableEq, Repr

/-- The results of 9.3. -/
inductive Result where
  | done | partly | busy | held | taken | already
  | refused (r : Reason)
  | notFound | malformed | notReady
deriving DecidableEq, Repr

/-- A request frame as it joins a request queue: kind, tag and body (9.1). -/
structure Frame where
  kind : Byte
  tag  : Byte
  body : List Byte
deriving DecidableEq, Repr

inductive PortState where
  | down | up
deriving DecidableEq, Repr

/-- A port record as READ(PORT) returns it. The supervision timer is the tick it runs from, present while the port is
UP. -/
structure PortView where
  state       : PortState
  supervision : Option Tick
  requests    : List Frame
  notices     : List (Nat × Notice)
  nextSeq     : Nat
  valid       : Nat
  bad         : Nat
  overruns    : Nat
  lost        : Nat
deriving DecidableEq, Repr

/-- The figures of READ(STATUS) (R157). -/
structure StatusView where
  phase      : Phase
  supply     : SupplyState
  withdrawal : WState
  seconds    : Secs
  clockUnset : Bool
  faultLine  : Bool
  portA      : PortState
  portB      : PortState
  portL      : PortState
  passes     : Nat
  published  : Option (BitVec 32)
deriving DecidableEq, Repr

/-- What READ returns for each table of R157. -/
inductive Record where
  | status (v : StatusView)
  | line (state : LineState) (pollList : List PollEntry) (cursor : Nat) (gapStart : Option Tick)
      (slot : Option Calibration) (unmapped : Nat)
  | station (st : StationNo) (r : StationRec)
  | point (cfg : PointCfg) (rt : PointRt) (level : Level)
  | zone (r : ZoneRec) (contributing : Nat) (staleSources : List PointNo)
  | alarm (r : AlarmRec)
  | tripOutput (isOpen forced faultHold : Bool) (conds : TripConds)
  | roster (r : RosterRec)
  | muster (f : MusterFigures) (records evictions ignored : Nat) (full : Bool)
  | call (c : Call)
  | segment (g : Segment) (blocked : Bool)
  | truck (t : TruckRec) (f : RoadFigures)
  | refuge (cfg : RefugeCfg) (panel : Option StationNo) (r : RefugeRec) (panelState : Option StationState)
  | withdrawal (w : Withdrawal) (isolated : Bool) (unaccounted : Nat) (zonesTrip zonesWithdraw : List Zone)
      (sealedRefuges : List RefugeNo)
  | interlock (cfg : EntryCfg) (rt : EntryRt)
  | signalOutput (on : Bool) (alert withdraw unack interlock : Bool)
  | fault (asserted : Bool) (causes enables : List FaultCause)
  | port (v : PortView)
  | callQueue (calls nextNumber dropped refused : Nat)
deriving DecidableEq, Repr

/-- What a response carries after its result and reason (12.1, and the owning rules). -/
inductive Detail where
  | none
  | port (p : PortId)
  | zones (zs : List Zone)
  | wstate (w : WState)
  | causes (zs : List Zone) (isolated : Bool) (refuges : List RefugeNo)
  | invalid (sec idx : Nat) (check : Check)
  | found (r : RosterRec) (position : Nat)
  | record (r : Record)
deriving DecidableEq, Repr

/-- One response: the response kind, the request's tag, the result and what follows it (R156, 12.1). -/
structure Response where
  kind   : Byte
  tag    : Byte
  result : Result
  detail : Detail
deriving DecidableEq, Repr

/-- A frame that a port has put on its line: a response (R156), or a notice with its number (R159). -/
inductive Sent where
  | response (r : Response)
  | notice (number : Nat) (n : Notice)
deriving DecidableEq, Repr

/-- The port record of chapter 9. `supervised` is the tick of the last frame that restarted the supervision timer,
which runs while the port is UP; `assembly` holds the bytes of the frame being received, from its start marker;
`restartDue` says that the port has not come UP since the start (R153); `responses` are the responses the port has
made since the start, oldest first. The notice at the head of a queue that is not empty is the one being sent; `held`
are the responses that wait for its end to take the line (R156), and `sent` is what has gone out on the line since the
start, oldest first (log 8). -/
structure PortRec where
  state      : PortState
  supervised : Tick
  requests   : List Frame
  notices    : List (Nat × Notice)
  nextSeq    : Nat
  valid      : Nat
  bad        : Nat
  overruns   : Nat
  lost       : Nat
  assembly   : List Byte
  restartDue : Bool
  responses  : List Response
  held       : List Response
  sent       : List Sent
deriving DecidableEq, Repr

structure Ports where
  a : PortRec
  b : PortRec
  l : PortRec
deriving DecidableEq, Repr

/-! ### Settings Store, Integrity Monitor, Supply Unit, Section Clock -/

/-- An open edit: its holder, its shadow image, and the tick its inactivity timer runs from (10.2). -/
structure Edit where
  holder : PortId
  shadow : Image
  timer  : Tick
deriving DecidableEq, Repr

/-- The Settings Store: the active image, empty before the first commit; the integrity reference; the open edit. -/
structure Settings where
  active    : Option Image
  reference : Option (BitVec 32)
  edit      : Option Edit
deriving DecidableEq, Repr

/-- The pass in flight: a regular one, or the pass of a CHECK_CLEAR with the port and tag its response waits for,
absent once that port has gone DOWN (R169). -/
inductive Pass where
  | regular
  | checkClear (who : Option (PortId × Byte))
deriving DecidableEq, Repr

/-- The Integrity Monitor (10.3). The running period began at `periodFrom` and lasts `period` seconds. -/
structure Monitor where
  pass       : Option Pass
  passes     : Nat
  rolling    : Nat
  published  : Option (BitVec 32)
  fault      : Bool
  periodFrom : Tick
  period     : Nat
deriving DecidableEq, Repr

/-- The Supply and Hold-up Unit (chapter 11) and its two inputs. `resetPending` names the port whose DONE response to a
FULL_RESET is being sent (R174); `runningFrom` is the tick at which the phase became RUNNING, from which the signal
patterns run (R148). -/
structure Supply where
  state        : SupplyState
  phase        : Phase
  store        : Store
  start        : StartRec
  save         : SaveStage
  mainsOk      : Bool
  battLow      : Bool
  resetPending : Option PortId
  runningFrom  : Tick
deriving DecidableEq, Repr

/-- The Section Clock (9.4): the seconds counter, CLOCK_UNSET, the tick of the last second, and whether a save has
stopped the counter (R172). -/
structure Clock where
  seconds : Secs
  unset   : Bool
  from_   : Tick
  stopped : Bool
deriving DecidableEq, Repr

end Sys2Proof.Machine
end

