-- ==== Sys2Proof/Config.lean ====
section
/-!
DEFINITION. What the manual leaves open and a claim may not rest on: the one free value of the model.
-/
namespace Sys2Proof.Config

/-- The bytes of the written hold-up store, over which its check value is taken (R172). The manual gives the CRC-32 and
not the layout of the store, so the layout is a free value (DESIGN CHOICE, log 4). -/
opaque storeBytes : Machine.Saved → Nat → List Byte

end Sys2Proof.Config
end

