-- ==== Sys2Proof/Machine/State.lean ====
section
/-!
DEFINITION. The state of the KS46 as plain data, its cold values record by record, and `State.reset`: the part right
after power-on with nothing retained, in SELF_TEST (R173), with every table at the cold values of R18, R39, R62,
R79, R96, R121, R136, R146, R149, R162 and R170.
-/
namespace Sys2Proof.Machine

/-- Everything the manual gives the KS46, and the queue of waiting commands. -/
structure State where
  /-- The count of the Section Clock's 10 ms tick (9.4). -/
  tick       : Tick
  clock      : Clock
  lines      : Lines
  /-- A station record for each station named in STATIONS (1.4). -/
  stations   : Vector (Option StationRec) 62
  /-- The truck demands awaiting delivery, shared by both lines (R15). -/
  delivery   : List TruckNo
  points     : Vector PointRt 96
  zones      : Vector ZoneRec 16
  /-- The alarm list in order of creation (3.4). -/
  alarms     : List AlarmRec
  trips      : Vector TripOut 8
  roster     : Roster
  calls      : CallQueue
  segments   : Vector Segment 24
  trucks     : Vector TruckRec 16
  road       : RoadFigures
  refuges    : Vector RefugeRec 4
  withdrawal : Withdrawal
  entries    : Vector EntryRt 24
  signals    : Vector SignalOut 8
  /-- Whether the fault line is asserted (8.8). -/
  faultLine  : Bool
  ports      : Ports
  settings   : Settings
  monitor    : Monitor
  supply     : Supply
  /-- The commands that wait to be taken, first in, first out. -/
  pending    : List Instr
deriving DecidableEq, Repr

/-- The reasons a step stops with a fault: none. Every command of the table has an effect in every state, so no
meaning raises one. -/
inductive Fault where
deriving DecidableEq, Repr

/-- The reasons a command is refused. -/
inductive Refusal where
  /-- Raised by `exec` alone, for a row of the table whose meaning is not written. Safe: the model stops. No arm
  raises it: every row has its meaning. -/
  | notModelled (mnemonic : String)
deriving DecidableEq, Repr

/-! ### Cold values -/

/-- R18: a line at a cold start. -/
def LineRec.cold : LineRec :=
  { state := .idle, pollList := [], cursor := 0, gapStart := none, slot := none, unmapped := 0, poll := none }

/-- R39: all flags clear. -/
def PointFlags.clear : PointFlags :=
  { degraded := false, tempClamp := false, overRange := false, drift := false, cal := false, stale := false
    suspended := false }

/-- R39, R40: every level IDLE. -/
def LevelStates.idle : LevelStates := { warn := .idle, trip := .idle, withdraw := .idle }

/-- R39: the values of a point not yet sampled. -/
def PointRt.cold : PointRt :=
  { lastRaw := none, lastTemp := none, v1 := none, factor := none, v2 := none, s := none, rise := none
    flags := .clear, reseed := false, rejected := 0, levels := .idle, lastSample := none, staleSince := none
    staleTick := none, staleTrip := false }

/-- R62: a zone at a cold start. -/
def ZoneRec.cold : ZoneRec := { level := .none, latch := false, latchedAt := none }

/-- R62: trip outputs are OPEN until RUNNING, with the forced and fault-hold flags clear. -/
def TripOut.cold : TripOut :=
  { isOpen := true, forced := false, faultHold := false, holders := Vector.replicate 24 false }

/-- R79: the roster at a cold start. -/
def Roster.cold : Roster :=
  { records := [], overflow := 0, evictions := 0, ignored := 0, full := false, unaccounted := 0 }

/-- R96: the Call Queue after every start. -/
def CallQueue.cold : CallQueue := { calls := [], nextNumber := 1, nextOrder := 0, dropped := 0, refused := 0 }

/-- R121: a segment at a cold start. -/
def Segment.cold : Segment :=
  { holder := none, gas := false, interlock := Vector.replicate 24 false, manual := false, unverified := false }

/-- R121: a truck record at a cold start. -/
def TruckRec.cold : TruckRec :=
  { state := .unknown, run := none, reported := none, position := 0, speed := 0, dir := .inbye, demand := none
    cap := 0, grant := { asked := 0, outcome := .full }, overspeed := false, clamped := false, posClamped := false
    intruded := none, intrudedHolder := none, lastHeard := none, lastBeacon := none, heardTick := 0 }

/-- R121: the figures are 0 after every start. -/
def RoadFigures.cold : RoadFigures := { unknownTrucks := 0, badReports := 0, conflicts := 0 }

/-- R136: a refuge at a cold start. -/
def RefugeRec.cold : RefugeRec :=
  { door := .unknown, doorSince := none, airLow := false, batteryLow := false, doorFaults := 0, occupants := 0
    overCapacity := false, impaired := false, pattern := .off }

/-- R136: NORMAL, since 0, no cause. -/
def Withdrawal.cold : Withdrawal := { state := .normal, since := 0, cause := none }

/-- R146: an entry at a cold start. -/
def EntryRt.cold : EntryRt := { active := false, fired := 0, lastFired := none, rebuilding := false }

/-- R149: a signal output is OFF at every start. -/
def SignalOut.cold : SignalOut := { on := false, holders := Vector.replicate 24 false }

/-- R162: a port after every start. -/
def PortRec.cold : PortRec :=
  { state := .down, supervised := 0, requests := [], notices := [], nextSeq := 0, valid := 0, bad := 0
    overruns := 0, lost := 0, assembly := [], restartDue := true, responses := []
    held := [], sent := [] }

/-- R170: the Settings Store at a cold start. -/
def Settings.cold : Settings := { active := none, reference := none, edit := none }

/-- R170: the Integrity Monitor at a cold start. The period is a DESIGN CHOICE (log 12): no regular pass runs before
RUNNING, where it is set. -/
def Monitor.cold : Monitor :=
  { pass := none, passes := 0, rolling := 0, published := none, fault := false, periodFrom := 0, period := 10 }

/-- A store that holds nothing. The check value of an empty store is a DESIGN CHOICE (log 4). -/
def Store.empty : Store := { data := none, callsLost := 0, check := 0, mark := false }

/-- The supply unit at a power-on with no valid retention (R173). The supply state during SELF_TEST and the levels of
the two inputs are DESIGN CHOICES (logs 2 and 3). -/
def Supply.cold : Supply :=
  { state := .mains, phase := .selfTest, store := .empty
    start := { kind := .cold, cause := .powerOn, tableTestFail := false, restoreFault := false, callsLost := 0 }
    save := .none, mainsOk := true, battLow := false, resetPending := none, runningFrom := 0 }

/-- R158, R162: the counter at 0 with CLOCK_UNSET set. -/
def Clock.cold : Clock := { seconds := 0, unset := true, from_ := 0, stopped := false }

/-- The machine right after power-on with no valid retention: SELF_TEST of a COLD start (R173). The fault line is
asserted, since TRUNK_PORT_DOWN, ISOLATED and CLOCK_UNSET hold and every cause is enabled (R151). -/
def State.reset : State :=
  { tick := 0, clock := .cold, lines := { one := .cold, two := .cold }, stations := Vector.replicate 62 none
    delivery := [], points := Vector.replicate 96 .cold, zones := Vector.replicate 16 .cold, alarms := []
    trips := Vector.replicate 8 .cold, roster := .cold, calls := .cold, segments := Vector.replicate 24 .cold
    trucks := Vector.replicate 16 .cold, road := .cold, refuges := Vector.replicate 4 .cold, withdrawal := .cold
    entries := Vector.replicate 24 .cold, signals := Vector.replicate 8 .cold, faultLine := true
    ports := { a := .cold, b := .cold, l := .cold }, settings := .cold, monitor := .cold, supply := .cold
    pending := [] }

end Sys2Proof.Machine
end

