-- ==== Sys2Proof/Machine/Operands.lean ====
section
/-!
DEFINITION. Every operand form of the frames (chapter 12): big-endian fields, the two CRCs (12.4), the requests of the
client ports (12.1), the replies and poll requests of the field lines (12.2, R7, R175), and the codes of responses and
notices.
-/
namespace Sys2Proof.Machine

/-! ### Fields -/

/-- The byte at an offset, as a number; 0 past the end. -/
def byteAt (r : List Byte) (i : Nat) : Nat := (r.getD i 0).toNat

/-- A two-byte field, most significant byte first (chapter 12). -/
def be16 (r : List Byte) (i : Nat) : Nat := byteAt r i * 256 + byteAt r (i + 1)

/-- A three-byte field. -/
def be24 (r : List Byte) (i : Nat) : Nat := be16 r i * 256 + byteAt r (i + 2)

/-- A four-byte field. -/
def be32 (r : List Byte) (i : Nat) : Nat := be16 r i * 65536 + be16 r (i + 2)

/-- A cap-lamp tag field. -/
def tagAt (r : List Byte) (i : Nat) : Tag := BitVec.ofNat 24 (be24 r i)

/-- A two-byte temperature, signed in two's complement (chapter 12). -/
def signed16 (n : Nat) : Int := if n < 32768 then (n : Int) else (n : Int) - 65536

/-- A number as an index of a table of `n`, absent when it is out of range. -/
def index? (n k : Nat) : Option (Fin n) := if h : k < n then some ⟨k, h⟩ else none

/-- A number as one byte, a two-byte and a three-byte field. -/
def byte (n : Nat) : Byte := BitVec.ofNat 8 n
def bytes16 (n : Nat) : List Byte := [byte (n / 256), byte n]
def bytes24 (n : Nat) : List Byte := [byte (n / 65536), byte (n / 256), byte n]

/-! ### Checks (12.4) -/

def crc16Bit (c : BitVec 16) : BitVec 16 := if c.msb then (c <<< 1) ^^^ 0x1021#16 else c <<< 1

def crc16Byte (c : BitVec 16) (b : Byte) : BitVec 16 :=
  (List.range 8).foldl (fun x _ => crc16Bit x) (c ^^^ (b.setWidth 16 <<< 8))

/-- CRC-16 of all frames: polynomial 1021, initial FFFF, unreflected, no final inversion. -/
def crc16 (bs : List Byte) : BitVec 16 := bs.foldl crc16Byte 0xFFFF#16

def crc32Bit (c : BitVec 32) : BitVec 32 := if c.msb then (c <<< 1) ^^^ 0x04C11DB7#32 else c <<< 1

def crc32Byte (c : BitVec 32) (b : Byte) : BitVec 32 :=
  (List.range 8).foldl (fun x _ => crc32Bit x) (c ^^^ (b.setWidth 32 <<< 24))

/-- CRC-32 of the settings image and the hold-up store: polynomial 04C11DB7, initial FFFFFFFF, unreflected, with a
final inversion. -/
def crc32 (bs : List Byte) : BitVec 32 := ~~~ (bs.foldl crc32Byte 0xFFFFFFFF#32)

/-! ### Stations -/

/-- The field line of a station index (12.3). -/
def stationLine (st : StationNo) : LineNo := if st.1 < 31 then .one else .two

/-- The address 1 to 31 of a station index (12.3). -/
def stationAddr (st : StationNo) : Nat := st.1 % 31 + 1

/-- The station at a line 1 or 2 and an address 1 to 31. -/
def stationOf (line addr : Nat) : Option StationNo :=
  if 1 ≤ line ∧ line ≤ 2 ∧ 1 ≤ addr ∧ addr ≤ 31 then index? 62 ((line - 1) * 31 + addr - 1) else none

/-- The number 1 or 2 of a line. -/
def lineNumber : LineNo → Nat
  | .one => 1
  | .two => 2

/-! ### Requests (12.1) -/

/-- The request rows of the opcode table. -/
inductive ReqRow where
  | read | findTag | setTime | keepalive | ackAlarm | resetTripZone | resetTripAll | resetTripOutput | forceTrip
  | takeCall | releaseCall | closeCall | declare | standDown | blockSegment | openSegment | clearTruck | calStart
  | editOpen | editWrite | editCommit | editCancel | checkClear | fullReset
deriving DecidableEq, Repr

/-- Request kinds are 0x01 to 0x16 (12.1). -/
def isRequestKind (k : Nat) : Bool := decide (1 ≤ k ∧ k ≤ 0x16)

/-- The row that a request frame spells by its kind and, for RESET_TRIP, its selector; none for a frame that spells
no row. -/
def rowOf (f : Frame) : Option ReqRow :=
  match f.kind.toNat with
  | 0x01 => some .read
  | 0x02 => some .findTag
  | 0x03 => some .setTime
  | 0x04 => some .ackAlarm
  | 0x05 =>
    match f.body with
    | sel :: _ =>
      match sel.toNat with
      | 0 => some .resetTripZone
      | 1 => some .resetTripAll
      | 2 => some .resetTripOutput
      | _ => none
    | [] => none
  | 0x06 => some .forceTrip
  | 0x07 => some .takeCall
  | 0x08 => some .releaseCall
  | 0x09 => some .closeCall
  | 0x0A => some .declare
  | 0x0B => some .standDown
  | 0x0C => some .blockSegment
  | 0x0D => some .openSegment
  | 0x0E => some .clearTruck
  | 0x0F => some .calStart
  | 0x10 => some .editOpen
  | 0x11 => some .editWrite
  | 0x12 => some .editCommit
  | 0x13 => some .editCancel
  | 0x14 => some .checkClear
  | 0x15 => some .fullReset
  | 0x16 => some .keepalive
  | _ => none

/-- The number of records and the record size of each section, 1 to 12 in image order (12.3): the size of the record
at an index, none when the section or the index does not exist. -/
def recordSize (sec idx : Nat) : Option Nat :=
  match sec with
  | 1 => if idx < 62 then some 4 else if idx < 64 then some 32 else none
  | 2 => if idx < 96 then some 24 else none
  | 3 => if idx < 5 then some 96 else none
  | 4 => if idx < 5 then some 16 else none
  | 5 => if idx < 16 then some 2 else if idx < 24 then some 4 else none
  | 6 => if idx < 24 then some 6 else if idx = 24 then some 32 else if idx = 25 then some 4 else none
  | 7 => if idx < 16 then some 4 else none
  | 8 => if idx < 4 then some 4 else none
  | 9 => if idx < 24 then some 16 else none
  | 10 => if idx < 8 then some 6 else none
  | 11 => if idx = 0 then some 24 else none
  | 12 => if idx = 0 then some 4 else none
  | _ => none

/-- R156 check 2 and R175: the body has the size 12.1 gives for the kind and its declared counts. -/
def bodySizeOk (f : Frame) : Bool :=
  let n := f.body.length
  match f.kind.toNat with
  | 0x01 => n = 3
  | 0x02 => n = 3
  | 0x03 => n = 4
  | 0x04 | 0x05 => n = 2
  | 0x06 | 0x07 | 0x08 | 0x09 | 0x0A | 0x0B | 0x0C | 0x0D | 0x0E | 0x0F => n = 1
  | 0x11 =>
    decide (n = 3 + byteAt f.body 2) && decide (3 ≤ n) &&
      match recordSize (byteAt f.body 0) (byteAt f.body 1) with
      | some size => decide (byteAt f.body 2 = size)
      | none => true
  | _ => n = 0

/-- The largest request body, that of an EDIT_WRITE for a COMPENSATION record (12.1). -/
def maxBody : Nat := 99

/-- The start marker of every frame (chapter 12). -/
def marker : Byte := 0x7E#8

/-! ### Field replies (12.2, R7, R175) -/

inductive Press where
  | none | short | held
deriving DecidableEq, Repr

/-- One channel of a sensor-head reply: channel number, raw count, and whether its status is OK. -/
structure ChannelReport where
  channel : Nat
  raw     : Nat
  ok      : Bool
deriving DecidableEq, Repr

/-- One sighting of a zone-reader reply. -/
structure Sighting where
  tag   : Tag
  press : Press
deriving DecidableEq, Repr

/-- One truck report of a road-beacon reply. -/
structure TruckReport where
  identity : Nat
  segment  : Nat
  position : Nat
  speed    : Nat
  dir      : Direction
  request  : Nat
deriving DecidableEq, Repr

/-- The content of a good reply, by the station's kind. -/
inductive ReplyBody where
  | sensorHead (temp : Option Int) (result : Option Nat) (channels : List ChannelReport)
  | zoneReader (sightings : List Sighting)
  | roadBeacon (reports : List TruckReport)
  | refugePanel (door : Nat) (airLow batteryLow : Bool)
deriving DecidableEq, Repr

/-- The code of a station kind (12.2, 12.3). -/
def StationKind.code : StationKind → Nat
  | .sensorHead => 1
  | .zoneReader => 2
  | .roadBeacon => 3
  | .refugePanel => 4

def pressOf (n : Nat) : Press :=
  match n with
  | 1 => .short
  | 2 => .held
  | _ => .none

/-- The body of a reply of each kind, read under R175; none when its length or its count is wrong (R7). The head
temperature is absent when the head status is not TEMP_VALID. -/
def replyBody (kind : StationKind) (b : List Byte) : Option ReplyBody :=
  match kind with
  | .sensorHead =>
    let n := byteAt b 5
    if 6 ≤ b.length ∧ n ≤ 4 ∧ b.length = 6 + 4 * n then
      let temp := if byteAt b 2 = 0 then some (signed16 (be16 b 0)) else none
      let result := if be16 b 3 = 0xFFFF then none else some (be16 b 3)
      some (.sensorHead temp result ((List.range n).map fun i =>
        { channel := byteAt b (6 + 4 * i), raw := be16 b (7 + 4 * i), ok := decide (byteAt b (9 + 4 * i) = 0) }))
    else none
  | .zoneReader =>
    let n := byteAt b 0
    if 1 ≤ b.length ∧ n ≤ 8 ∧ b.length = 1 + 4 * n then
      some (.zoneReader ((List.range n).map fun i =>
        { tag := tagAt b (1 + 4 * i), press := pressOf (byteAt b (4 + 4 * i)) }))
    else none
  | .roadBeacon =>
    let n := byteAt b 0
    if 1 ≤ b.length ∧ n ≤ 2 ∧ b.length = 1 + 9 * n then
      some (.roadBeacon ((List.range n).map fun i =>
        { identity := be16 b (1 + 9 * i), segment := byteAt b (3 + 9 * i), position := be16 b (4 + 9 * i)
          speed := be16 b (6 + 9 * i), dir := if byteAt b (8 + 9 * i) = 0 then .inbye else .outbye
          request := byteAt b (9 + 9 * i) }))
    else none
  | .refugePanel =>
    if b.length = 2 then
      some (.refugePanel (byteAt b 0) ((b.getD 1 0).getLsbD 0) ((b.getD 1 0).getLsbD 1))
    else none

/-- R7: the reply `bytes` to a poll of station `st` as a station of `kind`; none when it is bad. The frame is the
marker, the length L, the address, the kind, L body bytes and the CRC-16 over offsets 1 to 3 + L (12.2). -/
def goodReply (st : StationNo) (kind : StationKind) (bytes : List Byte) : Option ReplyBody :=
  let len := byteAt bytes 1
  if bytes.getD 0 0 = marker ∧ len + 6 ≤ bytes.length
      ∧ crc16 ((bytes.drop 1).take (3 + len)) = BitVec.ofNat 16 (be16 bytes (4 + len))
      ∧ byteAt bytes 2 = stationAddr st ∧ byteAt bytes 3 = kind.code then
    replyBody kind ((bytes.drop 4).take len)
  else none

/-! ### Poll requests (12.2) -/

def LampKind.code : LampKind → Nat
  | .acknowledged => 1
  | .busy => 2

def DemandKind.code : DemandKind → Nat
  | .proceed => 0
  | .stop => 1
  | .engineStop => 2

/-- Beacon pattern codes of a REFUGE_PANEL request. -/
def Pattern.code : Pattern → Nat
  | .off => 0
  | .steady => 1
  | .pulse1Hz => 2
  | .pulseQuarter => 3

/-- The body of the poll request that `p` records (12.2). -/
def pollBody (p : Poll) : List Byte :=
  match p.kind with
  | .sensorHead => [byte (match p.zero with | some c => c.1 | none => 0xFF)]
  | .zoneReader =>
    byte p.lamps.length :: p.lamps.flatMap fun i => bytes24 i.tag.toNat ++ [byte i.kind.code]
  | .roadBeacon =>
    byte p.demands.length :: p.demands.flatMap fun d =>
      bytes16 d.identity ++ [byte d.demand.kind.code] ++ bytes16 d.demand.cap
        ++ [byte (match d.demand.runEnd with | some k => k.1 | none => 0xFF)]
  | .refugePanel => [byte (p.beacon.getD .off).code]

/-- The poll request frame as it goes out on the line (12.2). -/
def pollFrame (p : Poll) : List Byte :=
  let body := pollBody p
  let checked := [byte body.length, byte (stationAddr p.station), byte p.kind.code] ++ body
  marker :: checked ++ bytes16 (crc16 checked).toNat

/-! ### Codes of responses and notices (12.1) -/

def Reason.code : Reason → Nat
  | .stationNotOnline => 1
  | .inAlarm => 2
  | .causePersists => 3
  | .notOffered => 4
  | .notHolder => 5
  | .truckActive => 6
  | .stateChanged => 7
  | .withdrawing => 8
  | .invalidSettings => 9
  | .roadInUse => 10
  | .noEdit => 11
  | .mismatch => 12

def Result.code : Result → Nat
  | .done => 0
  | .partly => 1
  | .busy => 2
  | .held => 3
  | .taken => 4
  | .already => 5
  | .refused _ => 6
  | .notFound => 7
  | .malformed => 8
  | .notReady => 9

/-- The reason byte is 0 unless the result is REFUSED. -/
def Result.reasonByte : Result → Nat
  | .refused r => r.code
  | _ => 0

/-- A response has the kind of its request plus 0x80; for a kind that is no request kind, 0x80. -/
def responseKind (k : Byte) : Byte := if isRequestKind k.toNat then k + 0x80#8 else 0x80#8

/-- The head of a response body: the result and the reason byte. -/
def responseHead (r : Response) : List Byte := [byte r.result.code, byte r.result.reasonByte]

/-- The kind of each notice, 0x41 to 0x52 (12.1). -/
def Notice.code : Notice → Nat
  | .alarm .. => 0x41
  | .zone .. => 0x42
  | .tripLatch .. | .tripForce .. | .tripOutput .. => 0x43
  | .callOffer .. => 0x44
  | .callTaken .. => 0x45
  | .callDropped .. => 0x46
  | .muster .. => 0x47
  | .withdrawal .. => 0x48
  | .station .. => 0x49
  | .truck .. => 0x4A
  | .roadConflict .. => 0x4B
  | .calDone .. => 0x4C
  | .calFailed .. => 0x4D
  | .settingsCommitted .. | .settingsEditExpired | .settingsFault .. | .settingsCleared => 0x4E
  | .interlock .. => 0x4F
  | .port .. => 0x50
  | .supply .. => 0x51
  | .restart .. => 0x52

/-- The head of a notice body: the two-byte notice sequence (R159). -/
def noticeHead (n : Nat × Notice) : List Byte := bytes16 n.1

end Sys2Proof.Machine
end

