-- ==== Sys2Proof/Machine/Settings.lean ====
section
/-!
DEFINITION. The settings records read as values (12.3), the default image (R163), the bytes the integrity CRC-32 runs
over (12.4), and the replacing of one record (R165). Every block reads its part of the active image through these.
-/
namespace Sys2Proof.Machine

/-! ### Codes -/

def zoneOf (n : Nat) : Zone := Fin.ofNat 16 n

def stationKindOf (n : Nat) : Option StationKind :=
  match n with
  | 1 => some .sensorHead
  | 2 => some .zoneReader
  | 3 => some .roadBeacon
  | 4 => some .refugePanel
  | _ => none

def subtypeOf (n : Nat) : ReaderSubtype :=
  match n with
  | 1 => .exitReader
  | 2 => .refuge
  | _ => .ordinary

def gasOf (n : Nat) : GasKind :=
  match n with
  | 0 => .ch4
  | 1 => .co
  | 2 => .o2
  | 3 => .co2
  | _ => .airflow

def GasKind.code : GasKind → Nat
  | .ch4 => 0
  | .co => 1
  | .o2 => 2
  | .co2 => 3
  | .airflow => 4

/-- The full scale of each kind (4.2). -/
def GasKind.fullScale : GasKind → Nat
  | .ch4 => 10000
  | .co => 2000
  | .o2 => 250
  | .co2 => 1000
  | .airflow => 2000

/-- The sense of each kind (4.2): RISING, or else FALLING. -/
def GasKind.rising : GasKind → Bool
  | .ch4 | .co | .co2 => true
  | .o2 | .airflow => false

def gradeOf (n : Nat) : Option Grade :=
  match n with
  | 1 => some .warn
  | 2 => some .trip
  | 3 => some .withdraw
  | _ => none

def raisedStateOf (n : Nat) : Option WState :=
  match n with
  | 1 => some .alert
  | 2 => some .withdraw
  | _ => none

def doorOf (n : Nat) : Option Door :=
  match n with
  | 0 => some .unknown
  | 1 => some .opened
  | 2 => some .closed
  | 3 => some .isSealed
  | _ => none

/-- Pattern codes of the OUTPUTS section (12.3). -/
def signalPatternOf (n : Nat) : Pattern :=
  match n with
  | 0 => .steady
  | 1 => .pulse1Hz
  | _ => .pulseQuarter

/-- A station field, line then address, or 0xFFFF when absent (12.3). -/
def stationRef (r : Rec) (i : Nat) : Option StationNo := stationOf (byteAt r i) (byteAt r (i + 1))

/-- A two-byte optional field, absent as 0xFFFF (chapter 12). -/
def opt16 (r : Rec) (i : Nat) : Option Nat := if be16 r i = 0xFFFF then none else some (be16 r i)

/-! ### Records -/

def Image.station (img : Image) (st : StationNo) : StationCfg :=
  let r := img.stations.getD st.1 []
  { kind := stationKindOf (byteAt r 0), subtype := subtypeOf (byteAt r 1), zone := zoneOf (byteAt r 2) }

/-- The record index of a line's poll list in STATIONS: 62 and 63. -/
def pollListIndex (ln : LineNo) : Nat :=
  match ln with
  | .one => 62
  | .two => 63

/-- A line's poll list (R2): the stations of that line in the order the settings give. -/
def Image.pollList (img : Image) (ln : LineNo) : List StationNo :=
  let r := img.stations.getD (pollListIndex ln) []
  ((List.range (min 31 (byteAt r 0))).filterMap fun i => stationOf (lineNumber ln) (byteAt r (1 + i)))

def Image.point (img : Image) (pt : PointNo) : PointCfg :=
  let r := img.points.getD pt.1 []
  { station := stationRef r 0, channel := Fin.ofNat 4 (byteAt r 2), kind := gasOf (byteAt r 3)
    zone := zoneOf (byteAt r 4), zero := be16 r 5, span := be16 r 7, weight := byteAt r 9, warn := opt16 r 10
    trip := opt16 r 12, withdraw := opt16 r 14, hysteresis := be16 r 16, clearDwell := byteAt r 18
    failSafe := decide (byteAt r 19 = 1), staleLimit := be16 r 20, driftTol := byteAt r 22 }

/-- A point is in use while its station is present (2.1). -/
def Image.inUse (img : Image) (pt : PointNo) : Bool := (img.point pt).station.isSome

def PointCfg.threshold (c : PointCfg) (g : Grade) : Option Nat :=
  match g with
  | .warn => c.warn
  | .trip => c.trip
  | .withdraw => c.withdraw

def Image.comp (img : Image) (k : GasKind) : CompTable :=
  let r := img.compensation.getD k.code []
  { ts := (List.range 8).map fun i => signed16 (be16 r (2 * i))
    cs := (List.range 4).map fun j => be16 r (16 + 2 * j)
    cells := (List.range 32).map fun i => opt16 r (24 + 2 * i) }

/-- A kind's dwell table: 4 entries (min_rise, dwell) (R43). -/
def Image.dwellTable (img : Image) (k : GasKind) : List (Nat × Nat) :=
  let r := img.dwell.getD k.code []
  (List.range 4).map fun i => (be16 r (3 * i), byteAt r (3 * i + 2))

def Image.zoneExit (img : Image) (z : Zone) : Bool := ((img.zones.getD z.1 []).getD 0 0).getLsbD 0
def Image.zoneRefuge (img : Image) (z : Zone) : Bool := ((img.zones.getD z.1 []).getD 0 0).getLsbD 1

/-- The zone mask of a trip output (3.7). -/
def Image.tripMask (img : Image) (k : OutNo) : Nat := be16 (img.zones.getD (16 + k.1) []) 0

def Image.segment (img : Image) (k : SegNo) : SegCfg :=
  let r := img.road.getD k.1 []
  { zone := zoneOf (byteAt r 0), length := be16 r 1, limit := be16 r 3 }

/-- The braking table: 8 entries (distance_min, speed) (6.5). -/
def Image.braking (img : Image) : List (Nat × Nat) :=
  let r := img.road.getD 24 []
  (List.range 8).map fun i => (be16 r (4 * i), be16 r (4 * i + 2))

def Image.stopMargin (img : Image) : Nat := byteAt (img.road.getD 25 []) 0
def Image.approach (img : Image) : Nat := byteAt (img.road.getD 25 []) 1
def Image.overspeedTol (img : Image) : Nat := byteAt (img.road.getD 25 []) 2

/-- The identity at a truck number, absent as 0xFFFF (6.2). -/
def Image.identity (img : Image) (t : TruckNo) : Option Nat :=
  let r := img.trucks.getD t.1 []
  if 1 ≤ be16 r 0 ∧ be16 r 0 ≤ 65534 then some (be16 r 0) else none

def Image.refuge (img : Image) (n : RefugeNo) : RefugeCfg :=
  let r := img.refuges.getD n.1 []
  { zone := if byteAt r 0 = 0xFF then none else some (zoneOf (byteAt r 0)), capacity := byteAt r 1 }

/-- The condition of an entry's record: its kind at offset 1 and its arguments from offset 2. -/
def conditionOf (r : Rec) : Condition :=
  match byteAt r 1 with
  | 1 => match gradeOf (byteAt r 4) with | some g => .zoneAt (be16 r 2) g | none => .never
  | 2 => match index? 96 (byteAt r 2) with | some pt => .pointBeyond pt (be16 r 3) (decide (byteAt r 5 = 0)) | none => .never
  | 3 => .stationLost (stationRef r 2)
  | 4 =>
    match index? 4 (byteAt r 2), doorOf (byteAt r 3) with
    | some n, some d => .doorIs n d
    | _, _ => .never
  | 5 => .unaccountedAbove (byteAt r 2)
  | 6 => match raisedStateOf (byteAt r 2) with | some w => .withdrawalAt w | none => .never
  | 7 => .truckLostAny
  | _ => .never

/-- The action of an entry's record: its kind at offset 8 and its arguments from offset 9. -/
def actionOf (r : Rec) : Action :=
  match byteAt r 8 with
  | 1 => .signal (byteAt r 9)
  | 2 => .block (be24 r 9)
  | 3 => .trip (byteAt r 9)
  | 4 => match raisedStateOf (byteAt r 9) with | some w => .raise w | none => .nothing
  | 5 => .call (zoneOf (byteAt r 9))
  | 6 => .notice
  | _ => .nothing

def Image.entry (img : Image) (n : EntryNo) : EntryCfg :=
  let r := img.interlock.getD n.1 []
  { enabled := decide (byteAt r 0 = 1), condition := conditionOf r, action := actionOf r }

def Image.output (img : Image) (k : OutNo) : OutputCfg :=
  let r := img.outputs.getD k.1 []
  let d := r.getD 0 0
  { onAlert := d.getLsbD 0, onWithdraw := d.getLsbD 1, onUnack := d.getLsbD 2, onInterlock := d.getLsbD 3
    unackZones := be16 r 1, pattern := signalPatternOf (byteAt r 3) }

def Image.timingRec (img : Image) : Rec := img.timing.getD 0 []
def Image.missLimit (img : Image) : Nat := byteAt img.timingRec 0
/-- cycle_gap in ms. -/
def Image.cycleGap (img : Image) : Nat := be16 img.timingRec 1
/-- battery_gap in ms. -/
def Image.batteryGap (img : Image) : Nat := be16 img.timingRec 3
def Image.batteryMask (img : Image) : Nat := be16 img.timingRec 5
def Image.missingNormal (img : Image) : Nat := be16 img.timingRec 7
def Image.missingWithdraw (img : Image) : Nat := be16 img.timingRec 9
def Image.exitLinger (img : Image) : Nat := be16 img.timingRec 11
def Image.escalation (img : Image) : Nat := be16 img.timingRec 13
def Image.supervision (img : Image) : Nat := byteAt img.timingRec 15
def Image.truckLost (img : Image) : Nat := byteAt img.timingRec 16
def Image.integrityPeriod (img : Image) : Nat := byteAt img.timingRec 17
def Image.rollingMode (img : Image) : Bool := decide (byteAt img.timingRec 18 = 1)

/-- The enable of a fault cause: the bit of its place in the table of R150. -/
def FaultCause.bit : FaultCause → Nat
  | .settingsFault => 0
  | .tableTestFail => 1
  | .restoreFault => 2
  | .stationLostAny => 3
  | .trunkPortDown => 4
  | .isolated => 5
  | .rosterFull => 6
  | .clockUnset => 7

def FaultCause.all : List FaultCause :=
  [.settingsFault, .tableTestFail, .restoreFault, .stationLostAny, .trunkPortDown, .isolated, .rosterFull, .clockUnset]

def Image.faultEnabled (img : Image) (c : FaultCause) : Bool := ((img.faultEnables.getD 0 []).getD 0 0).getLsbD c.bit

/-! ### The default image (R163) -/

/-- The point record of the default image: station absent and each setting at its stated default; the fields R163 and
2.1 give no default for are a DESIGN CHOICE (log 13): the least value of their range, the thresholds absent. -/
def defaultPoint : Rec :=
  [0xFF#8, 0xFF#8, 0, 0, 0, 0, 0, 0, 0, 1, 0xFF#8, 0xFF#8, 0xFF#8, 0xFF#8, 0xFF#8, 0xFF#8, 0, 0, 1, 0]
    ++ bytes16 30 ++ [byte 64, 0]

def defaultComp : Rec :=
  ((List.range 8).flatMap fun i => bytes16 (20 * i)) ++ ((List.range 4).flatMap fun j => bytes16 j)
    ++ ((List.range 32).flatMap fun _ => bytes16 1024) ++ List.replicate 8 0

def defaultTiming : Rec :=
  [byte 3] ++ bytes16 100 ++ bytes16 2000 ++ [0xFF#8, 0xFF#8] ++ bytes16 600 ++ bytes16 60 ++ bytes16 300
    ++ bytes16 120 ++ [byte 10, byte 8, byte 10, 0] ++ List.replicate 5 0

/-- R163: the image that an edit opened over an empty active image starts from. The capacity of an absent refuge is
given no default; 1, the least of its range, is a DESIGN CHOICE (log 13). -/
def Image.default : Image :=
  { stations := List.replicate 62 [0xFF#8, 0, 0, 0] ++ List.replicate 2 (List.replicate 32 0)
    points := List.replicate 96 defaultPoint
    compensation := List.replicate 5 defaultComp
    dwell := List.replicate 5 ((List.range 4).flatMap (fun _ => [0, 0, 1]) ++ List.replicate 4 0)
    zones := List.replicate 16 [0, 0] ++ List.replicate 8 [0, 0, 0, 0]
    road := List.replicate 24 ([0] ++ bytes16 100 ++ [0, 0, 0])
      ++ [List.replicate 32 0, [byte 20, byte 100, byte 20, 0]]
    trucks := List.replicate 16 [0xFF#8, 0xFF#8, 0, 0]
    refuges := List.replicate 4 [0xFF#8, 1, 0, 0]
    interlock := List.replicate 24 (List.replicate 16 0)
    outputs := List.replicate 8 (List.replicate 6 0)
    timing := [defaultTiming]
    faultEnables := [[0xFF#8, 0, 0, 0]] }

/-! ### The image as bytes, and its records by section and index -/

/-- The bytes of the image: sections in image order, records in record order, spare fields included (R168, 12.4). -/
def Image.bytes (img : Image) : List Byte :=
  img.stations.flatten ++ img.points.flatten ++ img.compensation.flatten ++ img.dwell.flatten ++ img.zones.flatten
    ++ img.road.flatten ++ img.trucks.flatten ++ img.refuges.flatten ++ img.interlock.flatten ++ img.outputs.flatten
    ++ img.timing.flatten ++ img.faultEnables.flatten

/-- R168: the CRC-32 of an image. -/
def Image.crc (img : Image) : BitVec 32 := crc32 img.bytes

/-- R168, ROLLING mode: the CRC-32 of the image followed by one byte holding the rolling counter. -/
def Image.rollingCrc (img : Image) (counter : Nat) : BitVec 32 := crc32 (img.bytes ++ [byte counter])

/-- The records of a section, 1 to 12 in image order. -/
def Image.sectionRecs (img : Image) (sec : Nat) : List Rec :=
  match sec with
  | 1 => img.stations
  | 2 => img.points
  | 3 => img.compensation
  | 4 => img.dwell
  | 5 => img.zones
  | 6 => img.road
  | 7 => img.trucks
  | 8 => img.refuges
  | 9 => img.interlock
  | 10 => img.outputs
  | 11 => img.timing
  | 12 => img.faultEnables
  | _ => []

/-- R165: one record replaced whole, its spare fields taken as written. -/
def Image.write (img : Image) (sec idx : Nat) (r : Rec) : Image :=
  match sec with
  | 1 => { img with stations := img.stations.set idx r }
  | 2 => { img with points := img.points.set idx r }
  | 3 => { img with compensation := img.compensation.set idx r }
  | 4 => { img with dwell := img.dwell.set idx r }
  | 5 => { img with zones := img.zones.set idx r }
  | 6 => { img with road := img.road.set idx r }
  | 7 => { img with trucks := img.trucks.set idx r }
  | 8 => { img with refuges := img.refuges.set idx r }
  | 9 => { img with interlock := img.interlock.set idx r }
  | 10 => { img with outputs := img.outputs.set idx r }
  | 11 => { img with timing := img.timing.set idx r }
  | 12 => { img with faultEnables := img.faultEnables.set idx r }
  | _ => img

/-- R37: the zero field of a point's record, and no other field, takes a count. -/
def Image.writeZero (img : Image) (pt : PointNo) (count : Nat) : Image :=
  let r := img.points.getD pt.1 []
  { img with points := img.points.set pt.1 ((r.set 5 (byte (count / 256))).set 6 (byte count)) }

/-! ### What the blocks derive from the image -/

/-- The image the blocks read: the active image, or, while that is empty, the default image, whose entries are all
absent and whose timing values are the ones R153 and R151 state for an empty image. -/
def State.image (s : State) : Image := s.settings.active.getD Image.default

/-- R122: the panel of a refuge in use, the REFUGE_PANEL station whose zone is the refuge's zone. -/
def Image.panel (img : Image) (n : RefugeNo) : Option StationNo :=
  match (img.refuge n).zone with
  | none => none
  | some z => (List.finRange 62).find? fun st =>
      decide ((img.station st).kind = some .refugePanel) && decide ((img.station st).zone = z)

/-- R64: the refuge of a REFUGE reader of zone `z`. -/
def Image.refugeOfZone (img : Image) (z : Zone) : Option RefugeNo :=
  (List.finRange 4).find? fun n => decide ((img.refuge n).zone = some z)

/-- R19: the point configured on a (station, channel). -/
def Image.pointAt (img : Image) (st : StationNo) (ch : Nat) : Option PointNo :=
  (List.finRange 96).find? fun pt =>
    decide ((img.point pt).station = some st) && decide ((img.point pt).channel.1 = ch)

/-- The points of a station. -/
def Image.pointsOf (img : Image) (st : StationNo) : List PointNo :=
  (List.finRange 96).filter fun pt => decide ((img.point pt).station = some st)

/-- R99: the truck number of an identity. Two numbers with one identity are not refused by R166; the lowest is found
(DESIGN CHOICE, log 16). -/
def Image.truckOf (img : Image) (identity : Nat) : Option TruckNo :=
  (List.finRange 16).find? fun t => decide (img.identity t = some identity)

/-- A member of a set sent as a bit field (chapter 12). -/
def inMask (mask k : Nat) : Bool := mask.testBit k

end Sys2Proof.Machine
end

