-- ==== Sys2Proof/Machine/Flags.lean ====
section
/-!
DEFINITION. Every flag and figure the manual computes from values alone: the four stages of the Reading Pipeline with
the flags DRIFT, OVER_RANGE, TEMP_CLAMP and DEGRADED (R20 to R29), the levels of a point (R40 to R45), the order of
levels and states, and the tests of haulage (R106 to R108) and of the refuges (R125 to R127).
-/
namespace Sys2Proof.Machine

/-! ### Orders -/

def Level.rank : Level → Nat
  | .none => 0
  | .warn => 1
  | .trip => 2
  | .withdraw => 3

def Grade.level : Grade → Level
  | .warn => .warn
  | .trip => .trip
  | .withdraw => .withdraw

/-- The three levels in rising order. -/
def Grade.all : List Grade := [.warn, .trip, .withdraw]

/-- The higher of two levels. -/
def Level.max (a b : Level) : Level := if a.rank < b.rank then b else a

def WState.rank : WState → Nat
  | .normal => 0
  | .alert => 1
  | .withdraw => 2

def CallKind.rank : CallKind → Nat
  | .routine => 0
  | .urgent => 1
  | .emergency => 2

/-! ### Stage 1: linearise (R20 to R22) -/

/-- R19: a count above 4095 is first taken as 4095. -/
def clampRaw (raw : Nat) : Nat := min raw 4095

/-- R20: v1 from the clamped count. -/
def linearise (raw zero_ span : Nat) : Nat := if zero_ ≤ raw then (raw - zero_) * span / 4096 else 0

/-- R21: DRIFT. -/
def driftTest (raw zero_ tol : Nat) : Bool := decide (raw < zero_ ∧ tol < zero_ - raw)

/-! ### Stage 2: compensate (R23 to R27) -/

/-- R23, R24: the largest bracket of 0 to `last` whose point is at or below `x`. -/
def bracket (pts : List Int) (last : Nat) (x : Int) : Nat :=
  (List.range (last + 1)).foldl (fun i j => if pts.getD j 0 ≤ x then j else i) 0

/-- R23, R24: the fraction of `x` within its bracket, in 256ths, rounded down. -/
def fraction (pts : List Int) (i : Nat) (x : Int) : Int :=
  (x - pts.getD i 0) * 256 / (pts.getD (i + 1) 0 - pts.getD i 0)

/-- "Rounded to nearest", halves away from zero, of a quotient by 256 (R25, manual 4.3). -/
def round256 (x : Int) : Int := if 0 ≤ x then (x + 128) / 256 else -((-x + 128) / 256)

/-- R25: an interpolation from `a` towards `b` by a fraction `f`. -/
def interpolate (a b f : Int) : Int := a + round256 ((b - a) * f)

/-- A value taken into [a, b] (manual 4.3). -/
def clampInt (a b x : Int) : Int := if x < a then a else if b < x then b else x

/-- R23: TEMP_CLAMP. -/
def tempClampTest (t : CompTable) (temp : Option Int) : Bool :=
  match temp with
  | some x => decide (x < t.ts.getD 0 0 ∨ t.ts.getD 7 0 < x)
  | none => false

/-- R23 to R26: the compensation factor of a reading, none when the sample is DEGRADED. -/
def tableFactor (t : CompTable) (temp : Option Int) (v1 : Nat) : Option Nat :=
  match temp with
  | none => none
  | some x =>
    let x' := clampInt (t.ts.getD 0 0) (t.ts.getD 7 0) x
    let i := bracket t.ts 6 x'
    let ft := fraction t.ts i x'
    let cs : List Int := t.cs.map Int.ofNat
    let c := clampInt (cs.getD 0 0) (cs.getD 3 0) v1
    let j := bracket cs 2 c
    let fc := fraction cs j c
    match t.cells.getD (4 * i + j) none, t.cells.getD (4 * i + j + 1) none,
        t.cells.getD (4 * (i + 1) + j) none, t.cells.getD (4 * (i + 1) + j + 1) none with
    | some a, some b, some c', some d =>
      some (interpolate (interpolate a b fc) (interpolate c' d fc) ft).toNat
    | _, _, _, _ => none

/-- R27: the compensated reading before its clamp to full scale. -/
def compensate (v1 factor : Nat) : Nat := (v1 * factor + 512) / 1024

/-! ### Stages 3 and 4: smooth and rise (R28, R29) -/

/-- R28: the new s from the old one. -/
def smooth (s v2 w : Nat) : Nat :=
  let step : Int := Int.tdiv (((v2 : Int) - s) * w) 16
  let step := if step = 0 then (if s < v2 then 1 else if v2 < s then -1 else 0) else step
  ((s : Int) + step).toNat

/-- R29: the rise in the dangerous direction. -/
def riseOf (rising : Bool) (old new : Nat) : Nat := if rising then new - old else old - new

/-- R20 to R30: the four stages of a sample over a point's runtime part. -/
def pipeline (cfg : PointCfg) (t : CompTable) (temp : Option Int) (raw : Nat) (p : PointRt) : PointRt :=
  let v1 := linearise raw cfg.zero cfg.span
  let tf := tableFactor t temp v1
  let factor := tf.getD 1024
  let wide := compensate v1 factor
  let v2 := min wide cfg.kind.fullScale
  let seeded := if p.reseed then none else p.s
  let s := match seeded with
    | some old => smooth old v2 cfg.weight
    | none => v2
  { p with
    v1 := some v1
    factor := some factor
    v2 := some v2
    s := some s
    rise := seeded.map fun old => riseOf cfg.kind.rising old s
    reseed := false
    flags := { p.flags with
      drift := driftTest raw cfg.zero cfg.driftTol
      tempClamp := tempClampTest t temp
      degraded := tf.isNone
      overRange := decide (raw = 4095) || decide (cfg.kind.fullScale < wide) } }

/-! ### Levels of a point (R40 to R45) -/

/-- R41: beyond a threshold. -/
def isBeyond (rising : Bool) (thr s : Nat) : Bool := if rising then decide (thr ≤ s) else decide (s ≤ thr)

/-- R41: in the clear band of a threshold. -/
def inClearBand (rising : Bool) (thr hyst s : Nat) : Bool :=
  if rising then decide (s + hyst < thr) else decide (thr + hyst < s)

/-- R43: the dwell of the last entry whose min_rise is at or below the rise; an absent rise counts as 0. -/
def requiredDwell (table : List (Nat × Nat)) (rise : Option Nat) : Nat :=
  table.foldl (fun d e => if e.1 ≤ rise.getD 0 then e.2 else d) 1

/-- R42 and R44: one level's state after a sample. -/
def levelStep (beyond inBand : Bool) (dwell clearDwell : Nat) : LevelState → LevelState
  | .idle => if beyond then (if dwell ≤ 1 then .qualified else .pending 1 dwell) else .idle
  | .pending n req => if beyond then (if req ≤ n + 1 then .qualified else .pending (n + 1) req) else .idle
  | .qualified => if inBand then (if clearDwell ≤ 1 then .idle else .clearing 1) else .qualified
  | .clearing n => if inBand then (if clearDwell ≤ n + 1 then .idle else .clearing (n + 1)) else .qualified

/-- R40, R41: a level takes a sample only while its threshold is present. -/
def levelSample (cfg : PointCfg) (dwell : List (Nat × Nat)) (s : Nat) (rise : Option Nat) (g : Grade)
    (l : LevelState) : LevelState :=
  match cfg.threshold g with
  | none => .idle
  | some thr => levelStep (isBeyond cfg.kind.rising thr s) (inClearBand cfg.kind.rising thr cfg.hysteresis s)
      (requiredDwell dwell rise) cfg.clearDwell l

/-- R41: the sample is taken into each level independently. -/
def sampleLevels (cfg : PointCfg) (dwell : List (Nat × Nat)) (s : Nat) (rise : Option Nat) (l : LevelStates) :
    LevelStates :=
  { warn := levelSample cfg dwell s rise .warn l.warn
    trip := levelSample cfg dwell s rise .trip l.trip
    withdraw := levelSample cfg dwell s rise .withdraw l.withdraw }

def LevelState.inForce : LevelState → Bool
  | .qualified | .clearing _ => true
  | .idle | .pending _ _ => false

/-- R45: the point level. -/
def LevelStates.level (l : LevelStates) : Level :=
  if l.withdraw.inForce then .withdraw else if l.trip.inForce then .trip else if l.warn.inForce then .warn else .none

/-! ### Haulage (R104, R106 to R108) -/

/-- What lies ahead of a segment in a direction; none at the end of the road (6.1). -/
def ahead (d : Direction) (k : SegNo) : Option SegNo :=
  match d with
  | .inbye => index? 24 (k.1 + 1)
  | .outbye => if k.1 = 0 then none else index? 24 (k.1 - 1)

/-- The segments of a run, from the current segment to the run end, in the direction of travel (6.2). -/
def runSegs (d : Direction) (r : Run) : List SegNo :=
  match d with
  | .inbye => (List.finRange 24).filter fun k => decide (r.cur.1 ≤ k.1 ∧ k.1 ≤ r.last.1)
  | .outbye => ((List.finRange 24).filter fun k => decide (r.last.1 ≤ k.1 ∧ k.1 ≤ r.cur.1)).reverse

/-- R106: the speed of the entry with the largest distance_min at or below d′, the later of two equal ones; 0 below
the first. -/
def brakingValue (table : List (Nat × Nat)) (d' : Nat) : Nat :=
  table.foldl (fun v e => if e.1 ≤ d' then e.2 else v) 0

/-- The distance from a position to the end of its segment in a direction (R106, R107). -/
def toSegmentEnd (d : Direction) (length position : Nat) : Nat :=
  match d with
  | .inbye => length - position
  | .outbye => position

/-- R106: the remaining distance, less the stop margin. -/
def stoppingDistance (img : Image) (d : Direction) (r : Run) (position : Nat) : Nat :=
  let rest := ((runSegs d r).drop 1).map fun k => (img.segment k).length
  toSegmentEnd d (img.segment r.cur).length position + rest.sum - img.stopMargin

/-- R107: the cap of a truck that proceeds. -/
def proceedCap (img : Image) (d : Direction) (r : Run) (position : Nat) : Nat :=
  let own := min (img.segment r.cur).limit (brakingValue img.braking (stoppingDistance img d r position))
  match (runSegs d r).drop 1 with
  | next :: _ =>
    if toSegmentEnd d (img.segment r.cur).length position ≤ img.approach then min own (img.segment next).limit else own
  | [] => own

/-- R108: OVERSPEED. -/
def overspeedTest (speed cap tol : Nat) : Bool := decide (cap + tol < speed)

/-! ### Segments, refuges, calls -/

/-- R97: a segment is BLOCKED while it has a block reason. -/
def Segment.blocked (g : Segment) : Bool := g.gas || g.manual || g.interlock.toList.any id

/-- R127: the beacon pattern of a refuge in use. -/
def beaconPattern (w : WState) (impaired : Bool) : Pattern :=
  match w, impaired with
  | .normal, _ => .off
  | .alert, false => .pulse1Hz
  | .withdraw, false => .steady
  | _, true => .pulseQuarter

/-- R82: the kind a press asks for; a press of NONE asks for nothing. -/
def pressKind (p : Press) (w : WState) : Option CallKind :=
  match p with
  | .none => none
  | .held => some .emergency
  | .short => some (if w = .withdraw then .urgent else .routine)

/-- R69: a tag that names a miner. -/
def validTag (t : Tag) : Bool := decide (t ≠ 0x000000#24 ∧ t ≠ 0xFFFFFF#24)

/-- R148: whether a pattern is lit at a count of ticks within the shared second. -/
def Pattern.lit (p : Pattern) (ticks : Nat) : Bool :=
  match p with
  | .off => false
  | .steady => true
  | .pulse1Hz => decide (ticks % 100 < 50)
  | .pulseQuarter => decide (ticks % 100 < 25)

/-- R3: a gap in milliseconds as whole ticks, rounded up. -/
def gapTicks (ms : Nat) : Nat := (ms + 9) / 10

end Sys2Proof.Machine
end

