-- ==== Sys2Proof/Machine/Ops.lean ====
section
/-!
DEFINITION. The named operations over the records of `State`: reading and changing one record, sending a notice
(R159), and the conditions several blocks read (R87, R155, R171).
-/
namespace Sys2Proof.Machine

/-! ### One record -/

def Lines.get (l : Lines) : LineNo → LineRec
  | .one => l.one
  | .two => l.two

def Lines.upd (l : Lines) (ln : LineNo) (f : LineRec → LineRec) : Lines :=
  match ln with
  | .one => { l with one := f l.one }
  | .two => { l with two := f l.two }

def Ports.get (p : Ports) : PortId → PortRec
  | .a => p.a
  | .b => p.b
  | .l => p.l

def Ports.upd (p : Ports) (i : PortId) (f : PortRec → PortRec) : Ports :=
  match i with
  | .a => { p with a := f p.a }
  | .b => { p with b := f p.b }
  | .l => { p with l := f p.l }

def PortId.all : List PortId := [.a, .b, .l]

def State.updLine (ln : LineNo) (f : LineRec → LineRec) (s : State) : State := { s with lines := s.lines.upd ln f }
def State.updPort (p : PortId) (f : PortRec → PortRec) (s : State) : State := { s with ports := s.ports.upd p f }
def State.updStation (st : StationNo) (f : StationRec → StationRec) (s : State) : State :=
  { s with stations := upd s.stations st (Option.map f) }
def State.updPoint (pt : PointNo) (f : PointRt → PointRt) (s : State) : State :=
  { s with points := upd s.points pt f }
def State.updZone (z : Zone) (f : ZoneRec → ZoneRec) (s : State) : State := { s with zones := upd s.zones z f }
def State.updTrip (k : OutNo) (f : TripOut → TripOut) (s : State) : State := { s with trips := upd s.trips k f }
def State.updSegment (k : SegNo) (f : Segment → Segment) (s : State) : State :=
  { s with segments := upd s.segments k f }
def State.updTruck (t : TruckNo) (f : TruckRec → TruckRec) (s : State) : State := { s with trucks := upd s.trucks t f }
def State.updRefuge (n : RefugeNo) (f : RefugeRec → RefugeRec) (s : State) : State :=
  { s with refuges := upd s.refuges n f }
def State.updEntry (n : EntryNo) (f : EntryRt → EntryRt) (s : State) : State := { s with entries := upd s.entries n f }
def State.updSignal (k : OutNo) (f : SignalOut → SignalOut) (s : State) : State :=
  { s with signals := upd s.signals k f }

def State.line (s : State) (ln : LineNo) : LineRec := s.lines.get ln
def State.port (s : State) (p : PortId) : PortRec := s.ports.get p

/-- Apply an operation for each item of a list, in its order. -/
def forEach {α : Type} (xs : List α) (f : α → State → State) (s : State) : State := xs.foldl (fun t x => f x t) s

/-! ### The Section Clock (9.4) -/

/-- The present Section Clock value. -/
def State.now (s : State) : Secs := s.clock.seconds

/-- A timer of `secs` seconds that runs from tick `start` has expired (9.4: 100 ticks a second). -/
def State.elapsed (s : State) (start secs : Nat) : Bool := decide (start + secs * 100 ≤ s.tick)

/-! ### Notices (R159) -/

/-- R159: a notice sent to a port that is UP takes the notice sequence, and joins the queue or is dropped; a DOWN port
receives none (R154). -/
def PortRec.push (n : Notice) (r : PortRec) : PortRec :=
  if r.state = .up then
    if r.notices.length < 16 then
      { r with notices := r.notices ++ [(r.nextSeq, n)], nextSeq := wrapInc 65536 r.nextSeq }
    else { r with nextSeq := wrapInc 65536 r.nextSeq, lost := satInc max16 r.lost }
  else r

/-- R159: the transmission of the notice being sent ends, and the notice leaves the queue; the responses that waited for
it go out ahead of every notice still waiting (R156). -/
def PortRec.endNotice (r : PortRec) : PortRec :=
  match r.notices with
  | [] => r
  | n :: rest =>
    { r with notices := rest, held := [], sent := r.sent ++ Sent.notice n.1 n.2 :: r.held.map Sent.response }

/-- Send a notice to the named ports, each independently. -/
def State.notifyOn (ps : List PortId) (n : Notice) (s : State) : State := forEach ps (fun p => State.updPort p (PortRec.push n)) s

/-- Send a notice to every UP port. -/
def State.notify (n : Notice) (s : State) : State := s.notifyOn PortId.all n

/-! ### Conditions several blocks read -/

def State.isUp (s : State) (p : PortId) : Bool := decide ((s.port p).state = .up)

/-- R155: TRUNK_PORT_DOWN. -/
def State.trunkPortDown (s : State) : Bool := !(s.isUp .a) || !(s.isUp .b)

/-- R155: ISOLATED. -/
def State.isolated (s : State) : Bool := !(s.isUp .a) && !(s.isUp .b)

/-- R87: the offer ports. -/
def State.offerPorts (s : State) : List PortId :=
  match s.isUp .a, s.isUp .b, s.isUp .l with
  | true, true, _ => [.a, .b]
  | true, false, _ => [.a]
  | false, true, _ => [.b]
  | false, false, true => [.l]
  | false, false, false => []

def State.running (s : State) : Bool := decide (s.supply.phase = .running)

/-- The supply state is MAINS or BATTERY. -/
def State.powered (s : State) : Bool := decide (s.supply.state = .mains) || decide (s.supply.state = .battery)

/-- R161: the ports take frames once the start has left RESTORE, and fall silent in DORMANT. -/
def State.portsListen (s : State) : Bool :=
  (decide (s.supply.phase = .unconfigured) || s.running) && decide (s.supply.state ≠ .dormant)

/-! ### Rosters and calls by key -/

def State.miner (s : State) (t : Tag) : Option RosterRec := s.roster.records.find? fun r => decide (r.tag = t)

def State.updMiner (t : Tag) (f : RosterRec → RosterRec) (s : State) : State :=
  { s with roster := { s.roster with records := s.roster.records.map fun r => if r.tag = t then f r else r } }

def State.call (s : State) (n : Nat) : Option Call := s.calls.calls.find? fun c => decide (c.number = n)

/-- R80: the open call of a tag. -/
def State.openCall (s : State) (t : Tag) : Option Call := s.calls.calls.find? fun c => decide (c.tag = some t)

def Call.info (c : Call) : CallInfo := { number := c.number, tag := c.tag, zone := c.zone, kind := c.kind }

end Sys2Proof.Machine
end

