-- ==== Sys2Proof/Machine/Outputs.lean ====
section
/-!
DEFINITION. The Output Drivers: trip outputs (R59 to R61), signal outputs (R147 to R149) and the fault line (R150,
R151). `State.settle` re-judges all of them; every meaning that changes anything ends in it.
-/
namespace Sys2Proof.Machine

/-! ### Trip outputs -/

/-- R59: the conditions that hold a trip output open. -/
def State.tripConds (s : State) (k : OutNo) : TripConds :=
  { zones := (List.finRange 16).filter fun z => inMask (s.image.tripMask k) z.1 && s.zones[z.1].latch
    entries := (List.finRange 24).filter fun n => s.trips[k.1].holders[n.1]
    forced := s.trips[k.1].forced
    notRunning := !s.running
    supply := !s.powered }

def TripConds.any (c : TripConds) : Bool :=
  !c.zones.isEmpty || !c.entries.isEmpty || c.forced || c.notRunning || c.supply

/-- R59 and R60: an output is open while a condition holds, and an OPEN one is held open while SETTINGS_FAULT is
latched. -/
def tripWanted (conds fault wasOpen : Bool) : Bool := conds || (fault && wasOpen)

/-- R59 to R61: re-evaluate one output; a change sends its TRIP notice. -/
def State.evalTrip (k : OutNo) (s : State) : State :=
  let c := s.tripConds k
  let wasOpen := s.trips[k.1].isOpen
  let opened := tripWanted c.any s.monitor.fault wasOpen
  let s' := s.updTrip k fun o => { o with isOpen := opened, faultHold := s.monitor.fault && opened }
  if opened = wasOpen then s' else s'.notify (.tripOutput k opened c)

/-- R61: re-evaluate every trip output, each change with its notice, in the order of their numbers (DESIGN CHOICE,
log 5). -/
def State.evalTrips (s : State) : State := forEach (List.finRange 8) State.evalTrip s

/-! ### Signal outputs -/

/-- 3.4: a zone has an unacknowledged alarm. -/
def State.unackedZone (s : State) (z : Zone) : Bool :=
  s.alarms.any fun r => decide (r.zone = z) && (decide (r.state = .activeUnack) || decide (r.state = .clearedUnack))

/-- R147: the four drivers of an output that hold, ALERT, WITHDRAW, UNACK and INTERLOCK. -/
def State.drivers (s : State) (k : OutNo) : Bool × Bool × Bool × Bool :=
  let c := s.image.output k
  (c.onAlert && decide (s.withdrawal.state ≠ .normal),
   c.onWithdraw && decide (s.withdrawal.state = .withdraw),
   c.onUnack && (List.finRange 16).any (fun z => inMask c.unackZones z.1 && s.unackedZone z),
   c.onInterlock && s.signals[k.1].holders.toList.any id)

/-- R147, R149: an output is ON while supplied by MAINS or BATTERY, RUNNING, and a driver holds. -/
def State.signalOn (s : State) (k : OutNo) : Bool :=
  let d := s.drivers k
  s.powered && s.running && (d.1 || d.2.1 || d.2.2.1 || d.2.2.2)

/-- R147: re-judge every signal output. -/
def State.judgeSignals (s : State) : State :=
  { s with signals := updAll s.signals fun k o => { o with on := s.signalOn k } }

/-- R148: whether an output's lamp or sounder is lit at the present tick. -/
def State.signalLit (s : State) (k : OutNo) : Bool :=
  s.signals[k.1].on && (s.image.output k).pattern.lit (s.tick - s.supply.runningFrom)

/-! ### The fault line -/

/-- R11: at least one station record is LOST. -/
def State.stationLostAny (s : State) : Bool :=
  s.stations.toList.any fun r => match r with | some x => decide (x.state = .lost) | none => false

/-- R150: whether a fault cause holds. -/
def State.faultCause (s : State) : FaultCause → Bool
  | .settingsFault => s.monitor.fault
  | .tableTestFail => s.supply.start.tableTestFail
  | .restoreFault => s.supply.start.restoreFault
  | .stationLostAny => s.stationLostAny
  | .trunkPortDown => s.trunkPortDown
  | .isolated => s.isolated
  | .rosterFull => s.roster.full
  | .clockUnset => s.clock.unset

/-- R150, R151: the line is asserted while an enabled cause holds. -/
def State.faultAsserted (s : State) : Bool :=
  FaultCause.all.any fun c => s.faultCause c && s.image.faultEnabled c

def State.judgeFault (s : State) : State := { s with faultLine := s.faultAsserted }

/-- Re-judge every output (R59, R147, R150). -/
def State.settle (s : State) : State := s.evalTrips.judgeSignals.judgeFault

end Sys2Proof.Machine
end

