-- ==== Sys2Proof/Machine/Haulage.lean ====
section
/-!
DEFINITION. The Haulage Controller (chapter 6): demands, cuts, block reasons, truck reports with their five stages,
loss and clearing. Nothing here reaches another block but through notices and the delivery order of R15; a change of
TRUCK_LOST_ANY is handed to the Interlock Table by `Machine/Interlock.lean`.
-/
namespace Sys2Proof.Machine

/-! ### Demands (R106, R107, R109) -/

/-- The demand as the truck sees it (R107); absent while the demand is. -/
def TruckRec.view (t : TruckRec) : Option DemandView :=
  t.demand.map fun k => { kind := k, cap := t.cap, runEnd := t.run.map Run.last }

/-- R107: the demand kind and the cap of a truck that has reported. -/
def State.demandOf (s : State) (t : TruckRec) : DemandKind × Nat :=
  match t.run with
  | none => (.stop, 0)
  | some r =>
    if s.segments[r.cur.1].gas then (.engineStop, 0)
    else if t.state = .lost ∨ t.intruded.isSome then (.stop, 0)
    else if stoppingDistance s.image t.dir r t.position = 0 then (.stop, 0)
    else (.proceed, proceedCap s.image t.dir r t.position)

/-- Compute a truck's demand afresh; an UNKNOWN truck has none. -/
def State.recompute (t : TruckNo) (s : State) : State :=
  let d := s.demandOf s.trucks[t.1]
  s.updTruck t fun r => if r.state = .unknown then r else { r with demand := some d.1, cap := d.2 }

/-- R15: a truck joins the end of the delivery order when it is not in it. -/
def State.joinDelivery (t : TruckNo) (s : State) : State :=
  if t ∈ s.delivery then s else { s with delivery := s.delivery ++ [t] }

/-- R109: the TRUCK notice, the record as it stands. -/
def State.truckNotice (t : TruckNo) (s : State) : State :=
  let r := s.trucks[t.1]
  s.notify (.truck t r.state r.run r.demand r.cap r.overspeed r.intruded.isSome r.clamped r.posClamped)

/-- R109: the changes that send a TRUCK notice. -/
def truckNotable (old new : TruckRec) : Bool :=
  decide (old.state ≠ new.state) || decide (old.demand ≠ new.demand)
    || decide (old.intruded.isSome ≠ new.intruded.isSome) || decide (old.overspeed ≠ new.overspeed)

/-- R109: hand on what a report or a recomputation changed of a truck, against the record before it. -/
def State.finishTruck (old : TruckRec) (t : TruckNo) (s : State) : State :=
  let new := s.trucks[t.1]
  let s := if new.view = old.view then s else s.joinDelivery t
  if truckNotable old new then s.truckNotice t else s

/-! ### Runs -/

/-- R97: release a segment. -/
def Segment.release (g : Segment) : Segment := { g with holder := none, unverified := false }

/-- Release the listed segments that the truck holds. -/
def State.releaseSegs (t : TruckNo) (ks : List SegNo) (s : State) : State :=
  forEach ks (fun k => State.updSegment k fun g => if g.holder = some t then g.release else g) s

/-- Cut a truck's run back to the segment `last` of it (R103, R115, R118). -/
def State.cutTo (t : TruckNo) (last : SegNo) (s : State) : State :=
  let r := s.trucks[t.1]
  match r.run with
  | none => s
  | some run =>
    let keep := runSegs r.dir { run with last := last }
    (s.releaseSegs t ((runSegs r.dir run).filter fun k => !keep.contains k)).updTruck t fun x =>
      { x with run := some { run with last := last } }

/-- R118: cut the run of every INBYE truck to its current segment, and recompute its demand, also that of a truck whose run
is its current segment already (DESIGN CHOICE, log 51). -/
def State.withdrawCut (s : State) : State :=
  forEach (List.finRange 16) (fun t s =>
    let old := s.trucks[t.1]
    match old.run with
    | some run => if old.dir = .inbye then ((s.cutTo t run.cur).recompute t).finishTruck old t else s
    | none => s) s

/-! ### Block reasons (R112 to R117) -/

/-- R115: the last segment a truck keeps of a run in which some segment is BLOCKED: the one before the first BLOCKED
segment, or the current segment when that is itself BLOCKED. -/
def State.keptEnd (s : State) (d : Direction) (run : Run) : SegNo :=
  (((runSegs d run).takeWhile fun k => !s.segments[k.1].blocked).getLast?).getD run.cur

/-- R115: cut one truck's run, its demand recomputed when its run changed, when its current segment was just BLOCKED,
or when its current segment took GAS (R112). -/
def State.blockTruck (newly gassed : SegNo → Bool) (t : TruckNo) (s : State) : State :=
  let old := s.trucks[t.1]
  match old.run with
  | none => s
  | some run =>
    let last := if (runSegs old.dir run).any newly then s.keptEnd old.dir run else run.last
    let s := if last = run.last then s else s.cutTo t last
    if last ≠ run.last ∨ newly run.cur ∨ gassed run.cur then (s.recompute t).finishTruck old t else s

/-- Change block reasons, then deal with every segment that became BLOCKED by it (R115) and every segment that took
GAS (R112). -/
def State.addReasons (f : SegNo → Segment → Segment) (gassed : SegNo → Bool) (s : State) : State :=
  let s' := { s with segments := updAll s.segments f }
  let newly := fun k : SegNo => !s.segments[k.1].blocked && s'.segments[k.1].blocked
  forEach (List.finRange 16) (State.blockTruck newly gassed) s'

/-- R112: the setting of a zone's trip latch sets GAS on every segment of the zone. -/
def State.setGas (z : Zone) (s : State) : State :=
  let mine := fun k : SegNo => decide ((s.image.segment k).zone = z)
  s.addReasons (fun k g => if mine k then { g with gas := true } else g) mine

/-- R112, R116: the clearing of a zone's trip latch clears GAS on its segments; a truck whose current segment carried
it has the demand STOP at once. -/
def State.clearGas (z : Zone) (s : State) : State :=
  let mine := fun k : SegNo => decide ((s.image.segment k).zone = z)
  let had := fun k : SegNo => mine k && s.segments[k.1].gas
  let s' := { s with segments := updAll s.segments fun k g => if mine k then { g with gas := false } else g }
  forEach (List.finRange 16) (fun t s =>
    let old := s.trucks[t.1]
    match old.run with
    | some run =>
      if had run.cur then (s.updTruck t fun r => { r with demand := some .stop, cap := 0 }).finishTruck old t else s
    | none => s) s'

/-- R113: entry `n` joins the INTERLOCK set of each segment in the mask, and of no other, when `on`; it leaves every
set when not. -/
def setInterlock (n : EntryNo) (mask : Nat) (on : Bool) (k : SegNo) (g : Segment) : Segment :=
  { g with interlock := g.interlock.set n.1 (on && inMask mask k.1) n.2 }

/-- R113: apply or withdraw entry `n`'s BLOCK action. -/
def State.interlockBlock (n : EntryNo) (mask : Nat) (on : Bool) (s : State) : State :=
  s.addReasons (setInterlock n mask on) fun _ => false

/-- R114: set or clear the MANUAL flag of a segment. -/
def State.setManual (k : SegNo) (on : Bool) (s : State) : State :=
  s.addReasons (fun j g => if j = k then { g with manual := on } else g) fun _ => false

/-! ### Truck reports (R99 to R108) -/

/-- R101: the truck is an intruder in `seg`; a ROAD_CONFLICT goes out when the segment is held by another truck and
the segment or its holder differs from the previous report. -/
def State.intrude (t : TruckNo) (seg : SegNo) (s : State) : State :=
  let old := s.trucks[t.1]
  let holder := s.segments[seg.1].holder
  let s := s.updTruck t fun r => { r with intruded := some seg, intrudedHolder := holder }
  match holder with
  | some h =>
    if h ≠ t ∧ (old.intruded ≠ some seg ∨ old.intrudedHolder ≠ some h) then
      { s with road := { s.road with conflicts := satInc max16 s.road.conflicts } }.notify
        (.roadConflict t seg h s.trucks[h.1].run)
    else s
  | none => s

/-- R100: INTRUSION cleared, with the intruded segment made absent. -/
def State.endIntrusion (t : TruckNo) (s : State) : State :=
  s.updTruck t fun r => { r with intruded := none, intrudedHolder := none }

/-- R100, R101: placement of a truck that holds a run. One that reports in a segment of its run ahead moves there by R100,
also when its current segment carries GAS (R116; DESIGN CHOICE, log 49). -/
def State.place (t : TruckNo) (seg : SegNo) (run : Run) (s : State) : State :=
  let segs := runSegs s.trucks[t.1].dir run
  if seg = run.cur then s.endIntrusion t
  else if seg ∈ segs then
    ((s.releaseSegs t (segs.takeWhile fun k => k ≠ seg)).updTruck t fun r =>
      { r with run := some { run with cur := seg } }).endIntrusion t
  else s.intrude t seg

/-- R105: record a grant result. -/
def State.setGrant (t : TruckNo) (asked : Nat) (o : GrantOutcome) (s : State) : State :=
  s.updTruck t fun r => { r with grant := { asked := asked, outcome := o } }

/-- R102: the entry of a truck that holds no run. A refused one records NONE with its cause also at a request of 0, with 0
asked (DESIGN CHOICE, log 45). -/
def State.enter (t : TruckNo) (seg : SegNo) (asked : Nat) (s : State) : State :=
  let g := s.segments[seg.1]
  if g.holder ≠ none ∧ g.holder ≠ some t then (s.intrude t seg).setGrant t asked (.refused .held)
  else if s.monitor.fault then (s.endIntrusion t).setGrant t asked (.refused .settingsFault)
  else if g.blocked then (s.endIntrusion t).setGrant t asked (.refused .blocked)
  else ((s.updSegment seg fun g => { g with holder := some t }).updTruck t fun r =>
      { r with run := some { cur := seg, last := seg } }).endIntrusion t

/-- R103: a new direction turns the truck and cuts its run to its current segment. -/
def State.turn (t : TruckNo) (d : Direction) (s : State) : State :=
  let r := s.trucks[t.1]
  if r.dir = d then s
  else
    let s := match r.run with
      | some run => s.cutTo t run.cur
      | none => s
    s.updTruck t fun x => { x with dir := d }

/-- R104: the segment that the grant stage can add next, or the cause that stops it. -/
def State.judgeGrant (s : State) (t : TruckNo) (run : Run) : SegNo ⊕ GrantCause :=
  let r := s.trucks[t.1]
  if s.monitor.fault then .inr .settingsFault
  else if s.segments[run.cur.1].gas then .inr .engineStop
  else
    match ahead r.dir run.last with
    | none => .inr .roadEnd
    | some k =>
      let g := s.segments[k.1]
      if s.withdrawal.state = .withdraw ∧ r.dir = .inbye then .inr .withdraw
      else if g.holder ≠ none ∧ g.holder ≠ some t then .inr .held
      else if g.blocked then .inr .blocked
      else .inl k

/-- R104, R105: extend the run towards the asked length; at most 4 segments are ever added, so the fuel of 5 that
`State.grantStage` gives is never spent. -/
def State.extend : Nat → TruckNo → Nat → State → State
  | 0, _, _, s => s
  | fuel + 1, t, asked, s =>
    let r := s.trucks[t.1]
    match r.run with
    | none => s
    | some run =>
      if asked ≤ (runSegs r.dir run).length then s.setGrant t asked .full
      else
        match s.judgeGrant t run with
        | .inr cause => s.setGrant t asked (.part cause)
        | .inl k =>
          State.extend fuel t asked
            ((s.updSegment k fun g => { g with holder := some t }).updTruck t fun x =>
              { x with run := some { run with last := k } })

/-- R104: a request of 0 skips the grant stage, and so does a truck that holds no run. -/
def State.grantStage (t : TruckNo) (asked : Nat) (s : State) : State :=
  if asked = 0 then s else s.extend 5 t asked

/-- R99: the accepted report is heard. -/
def State.hear (t : TruckNo) (beacon : StationNo) (seg : SegNo) (r : TruckReport) (s : State) : State :=
  let len := (s.image.segment seg).length
  let wasActive := decide (s.trucks[t.1].state = .active)
  let s := s.updTruck t fun x => { x with
    state := .active
    reported := some seg
    position := min r.position len
    speed := min r.speed 999
    clamped := decide (999 < r.speed)
    posClamped := decide (len < r.position)
    lastHeard := some s.now
    lastBeacon := some beacon
    heardTick := s.tick }
  if wasActive then s
  else { s with segments := updAll s.segments fun _ g => if g.holder = some t then { g with unverified := false } else g }

/-- R108: the overspeed test. -/
def State.testOverspeed (t : TruckNo) (s : State) : State :=
  s.updTruck t fun r => { r with overspeed := overspeedTest r.speed r.cap s.image.overspeedTol }

/-- R99: an accepted report heard and taken through its five stages, and what it changed handed on (R109). -/
def State.acceptReport (t : TruckNo) (beacon : StationNo) (seg : SegNo) (r : TruckReport) (s : State) : State :=
  let old := s.trucks[t.1]
  let asked := min r.request 4
  let s := s.hear t beacon seg r
  let s := match old.run with
    | some run => s.place t seg run
    | none => s.enter t seg asked
  let s := s.turn t r.dir
  let s := s.grantStage t asked
  ((s.recompute t).testOverspeed t).finishTruck old t

/-- R99: one truck report of a beacon's reply. A report whose identity is unknown and whose segment is above 23 counts as
an unknown truck alone (DESIGN CHOICE, log 37). -/
def State.truckReport (beacon : StationNo) (r : TruckReport) (s : State) : State :=
  match s.image.truckOf r.identity with
  | none => { s with road := { s.road with unknownTrucks := satInc max16 s.road.unknownTrucks } }
  | some t =>
    match index? 24 r.segment with
    | none => { s with road := { s.road with badReports := satInc max16 s.road.badReports } }
    | some seg => s.acceptReport t beacon seg r

/-! ### Loss and clearing (R110, R111) -/

/-- R139: TRUCK_LOST_ANY. -/
def State.truckLostAny (s : State) : Bool := s.trucks.toList.any fun t => decide (t.state = .lost)

/-- R110: the loss timer of an ACTIVE truck has run for truck_lost since its latest report. -/
def State.truckDue (s : State) (t : TruckNo) : Bool :=
  decide (s.trucks[t.1].state = .active) && s.elapsed s.trucks[t.1].heardTick s.image.truckLost

/-- R110: the truck becomes LOST. -/
def State.loseTruck (t : TruckNo) (s : State) : State :=
  let old := s.trucks[t.1]
  let s := s.updTruck t fun r => { r with state := .lost }
  let s := { s with
    segments := updAll s.segments fun _ g => if g.holder = some t then { g with unverified := true } else g }
  (s.recompute t).finishTruck old t

/-- R111: a LOST truck is cleared. -/
def State.clearTruckRec (t : TruckNo) (s : State) : State :=
  let s := { s with
    segments := updAll s.segments fun _ g => if g.holder = some t then g.release else g
    delivery := s.delivery.filter fun x => x ≠ t }
  (s.updTruck t fun r => { r with
    state := .unknown, run := none, reported := none, demand := none, cap := 0, overspeed := false, clamped := false
    posClamped := false, intruded := none, intrudedHolder := none }).truckNotice t

end Sys2Proof.Machine
end

