-- ==== Sys2Proof/Machine/Calls.lean ====
section
/-!
DEFINITION. The Call Queue (chapter 5) and the lamp items it hands to the Field Line Controllers (R14, R94).
-/
namespace Sys2Proof.Machine

/-! ### Lamp items (R14, R94) -/

/-- R14: an item offered to one lamp list: it replaces the tag's item in its place, or joins the end, the oldest BUSY
item, or else the oldest item, making room in a list of 16. -/
def addLampItem (i : LampItem) (l : List LampItem) : List LampItem :=
  if l.any fun x => decide (x.tag = i.tag) then l.map fun x => if x.tag = i.tag then i else x
  else
    let l := if l.length < 16 then l
      else if l.any fun x => decide (x.kind = .busy) then l.eraseP fun x => decide (x.kind = .busy)
      else l.drop 1
    l ++ [i]

/-- A zone reader in a poll list in use (R14). -/
def State.isPolledReader (s : State) (st : StationNo) : Bool :=
  (s.line (stationLine st)).pollList.any fun e => decide (e.station = st) && decide (e.kind = .zoneReader)

/-- R14: an item is offered to the lamp list of every polled zone reader of the zone, whatever the reader's state. -/
def State.lampItem (tag : Tag) (kind : LampKind) (z : Zone) (s : State) : State :=
  { s with stations := updAll s.stations fun st r =>
      if s.isPolledReader st then
        r.map fun x => if x.zone = z then { x with lamps := addLampItem { tag := tag, kind := kind } x.lamps } else x
      else r }

/-- R94: the zone of a tag's lamp item: its roster record's zone, or else the zone given. -/
def State.lampZone (s : State) (tag : Tag) (other : Zone) : Zone :=
  match s.miner tag with
  | some r => r.zone
  | none => other

/-- R94: produce an item; a call without a tag produces none. -/
def State.produceLamp (tag : Option Tag) (kind : LampKind) (other : Zone) (s : State) : State :=
  match tag with
  | some t => s.lampItem t kind (s.lampZone t other)
  | none => s

/-! ### Queue order and numbers (R80, R81) -/

/-- R80: a call stands before another: higher kind first, then raise order. -/
def Call.before (a b : Call) : Bool :=
  decide (b.kind.rank < a.kind.rank) || (decide (a.kind.rank = b.kind.rank) && decide (a.order < b.order))

/-- R80: a call put at its place in queue order. -/
def insertCall (c : Call) : List Call → List Call
  | [] => [c]
  | d :: l => if c.before d then c :: d :: l else d :: insertCall c l

/-- The number after a call number, going from 255 to 1. -/
def nextCallNumber (n : Nat) : Nat := if n < 255 then n + 1 else 1

/-- R81: the first number from `n` on that no call holds; a queue of 32 leaves one within 33 tries. -/
def freeNumber (calls : List Call) : Nat → Nat → Nat
  | 0, n => n
  | fuel + 1, n => if calls.any fun c => decide (c.number = n) then freeNumber calls fuel (nextCallNumber n) else n

def Call.isTaken (c : Call) : Bool :=
  match c.state with
  | .taken _ => true
  | _ => false

def State.setCalls (cs : List Call) (s : State) : State := { s with calls := { s.calls with calls := cs } }

/-- Change a call in its place. -/
def State.updCall (n : Nat) (f : Call → Call) (s : State) : State :=
  s.setCalls (s.calls.calls.map fun c => if c.number = n then f c else c)

/-- A call leaves the queue and the calls behind it close up. -/
def State.dropCall (n : Nat) (s : State) : State := s.setCalls (s.calls.calls.filter fun c => c.number ≠ n)

/-- R80: a call takes a kind, and the place that kind and its raise order give it. -/
def State.setCallKind (n : Nat) (k : CallKind) (s : State) : State :=
  match s.call n with
  | some c => let s := s.dropCall n; s.setCalls (insertCall { c with kind := k } s.calls.calls)
  | none => s

/-- R75: a tag's open call field. -/
def State.setOpenCall (tag : Option Tag) (n : Option Nat) (s : State) : State :=
  match tag with
  | some t => s.updMiner t fun r => { r with openCall := n }
  | none => s

/-! ### The offer window (R88, R89) -/

/-- R88: the numbers of the first 4 calls in queue order that are not TAKEN, while an offer port exists. -/
def State.window (s : State) : List Nat :=
  if s.offerPorts.isEmpty then [] else (((s.calls.calls.filter fun c => !c.isTaken).take 4).map Call.number)

/-- R88: recompute the window and bring the states into agreement; `changed` holds the numbers of the calls whose kind
changed in the same event. The notices of step 3 go out in queue order too (DESIGN CHOICE, log 40). -/
def State.recomputeWindow (changed : List Nat) (s : State) : State :=
  let ports := s.offerPorts
  let win := s.window
  let calls := s.calls.calls
  let s := forEach calls (fun c s =>
    if c.state = .offered ∧ ¬ c.number ∈ win then
      (s.updCall c.number fun x => { x with state := .waiting }).notifyOn ports (.callOffer c.info false c.offers)
    else s) s
  let s := forEach calls (fun c s =>
    if c.state = .waiting ∧ c.number ∈ win then
      (s.updCall c.number fun x => { x with state := .offered, offers := satInc 255 c.offers }).notifyOn ports
        (.callOffer c.info true (satInc 255 c.offers))
    else s) s
  forEach calls (fun c s =>
    if c.state = .offered ∧ c.number ∈ win ∧ c.number ∈ changed then
      s.notifyOn ports (.callOffer c.info true c.offers)
    else s) s

/-- The numbers of the OFFERED calls, in queue order. -/
def State.offeredCalls (s : State) : List Nat :=
  (s.calls.calls.filter fun c => decide (c.state = .offered)).map Call.number

/-- R89: the set of offer ports has changed from `old`: the window is recomputed, and each call that stays OFFERED is
sent to each port that has become an offer port. -/
def State.offerPortsChanged (old : List PortId) (s : State) : State :=
  let before := s.offeredCalls
  let s := s.recomputeWindow []
  let fresh := s.offerPorts.filter fun p => !old.contains p
  forEach fresh (fun p s => forEach s.calls.calls (fun c s =>
    if c.state = .offered ∧ c.number ∈ before then s.notifyOn [p] (.callOffer c.info true c.offers) else s) s) s

/-! ### Raising calls (R82 to R86) -/

/-- R82, R84: a new call enters the queue; R88 then deals with it. -/
def State.enterCall (tag : Option Tag) (z : Zone) (k : CallKind) (s : State) : State :=
  let n := freeNumber s.calls.calls 33 s.calls.nextNumber
  let c : Call := { number := n, tag := tag, zone := z, kind := k, state := .waiting, raised := s.now
                    order := s.calls.nextOrder, age := 0, ageFrom := s.tick, offers := 0 }
  let s := { s with calls := { s.calls with
    calls := insertCall c s.calls.calls, nextNumber := nextCallNumber n, nextOrder := s.calls.nextOrder + 1 } }
  (s.setOpenCall tag (some n)).recomputeWindow []

/-- R85: of two candidates the one dropped first, the lower kind and then the younger. -/
def dropFirst (a b : Call) : Call :=
  if b.kind.rank < a.kind.rank ∨ (b.kind.rank = a.kind.rank ∧ a.order ≤ b.order) then b else a

/-- R85: the candidate for dropping: the youngest WAITING call of the lowest kind among them. -/
def dropCandidate (calls : List Call) : Option Call :=
  match calls.filter fun c => decide (c.state = .waiting) with
  | [] => none
  | c :: l => some (l.foldl dropFirst c)

/-- R82, R84, R85: a new call from a press or an interlock action, against a queue that may be full. -/
def State.raiseCall (tag : Option Tag) (z : Zone) (k : CallKind) (s : State) : State :=
  if s.calls.calls.length < 32 then s.enterCall tag z k
  else
    match dropCandidate s.calls.calls with
    | some d =>
      if d.kind.rank < k.rank then
        let s := s.dropCall d.number
        let s := { s with calls := { s.calls with dropped := satInc max16 s.calls.dropped } }
        let s := (s.notify (.callDropped d.info)).setOpenCall d.tag none
        (s.produceLamp d.tag .busy d.zone).enterCall tag z k
      else { s with calls := { s.calls with refused := satInc max16 s.calls.refused } }.produceLamp tag .busy z
    | none => { s with calls := { s.calls with refused := satInc max16 s.calls.refused } }.produceLamp tag .busy z

/-- The ports of a list and one more, once each. -/
def withPort (ps : List PortId) (p : PortId) : List PortId := if p ∈ ps then ps else ps ++ [p]

/-- R83, R86: an open call takes a higher kind. -/
def State.raiseCallKind (n : Nat) (k : CallKind) (s : State) : State :=
  match s.call n with
  | none => s
  | some c =>
    let s := s.setCallKind n k
    match c.state with
    | .taken p => s.notifyOn (withPort s.offerPorts p) (.callTaken { c.info with kind := k } .raised p)
    | _ => s.recomputeWindow [n]

/-- R82, R83: a press handed to the Call Queue with the reader's zone. -/
def State.takePress (tag : Tag) (z : Zone) (p : Press) (s : State) : State :=
  match pressKind p s.withdrawal.state with
  | none => s
  | some k =>
    match s.openCall tag with
    | none => s.raiseCall (some tag) z k
    | some c =>
      let s := if c.kind.rank < k.rank then s.raiseCallKind c.number k else s
      if c.isTaken then s.produceLamp (some tag) .acknowledged c.zone else s

/-- R86: a ROUTINE call that is not TAKEN and whose age has reached the escalation time. -/
def State.escalates (s : State) (c : Call) : Bool :=
  decide (c.kind = .routine) && !c.isTaken && decide (s.image.escalation ≤ c.age)

/-- R86: every call due to escalate becomes URGENT, and the window is recomputed once for all of them (DESIGN CHOICE,
log 40). -/
def State.escalateAll (s : State) : State :=
  let due := (s.calls.calls.filter s.escalates).map Call.number
  if due.isEmpty then s else (forEach due (fun n => State.setCallKind n .urgent) s).recomputeWindow due

/-! ### Taking, releasing, closing (R90 to R93) -/

/-- R90: an OFFERED call is taken by a port. -/
def State.takeCallFor (p : PortId) (c : Call) (s : State) : State :=
  let s := s.updCall c.number fun x => { x with state := .taken p }
  let s := s.notifyOn (s.offerPorts.filter fun q => q ≠ p) (.callTaken c.info .taken p)
  (s.produceLamp c.tag .acknowledged c.zone).recomputeWindow []

/-- R91, R93: a TAKEN call goes back to WAITING, URGENT when R86 requires; the window is not yet recomputed. The notice
names the port that held the call as its taking port (DESIGN CHOICE, log 41). -/
def State.releaseCallFrom (p : PortId) (c : Call) (s : State) : State :=
  let s := s.updCall c.number fun x => { x with state := .waiting }
  let urgent := c.kind = .routine ∧ s.image.escalation ≤ c.age
  let s := if urgent then s.setCallKind c.number .urgent else s
  s.notifyOn (s.offerPorts.filter fun q => q ≠ p)
    (.callTaken { c.info with kind := if urgent then .urgent else c.kind } .released p)

/-- R92: a TAKEN call is closed. The notice names the port that held it as its taking port (DESIGN CHOICE, log 41). -/
def State.closeCallFrom (p : PortId) (c : Call) (s : State) : State :=
  let s := (s.dropCall c.number).setOpenCall c.tag none
  s.notifyOn (s.offerPorts.filter fun q => q ≠ p) (.callTaken c.info .closed p)

/-- R93: a port has gone DOWN: its calls are released in queue order, and the window is recomputed once with the new
set of offer ports. `old` is the set before. -/
def State.portCallsReleased (p : PortId) (old : List PortId) (s : State) : State :=
  let mine := s.calls.calls.filter fun c => decide (c.state = .taken p)
  (forEach mine (State.releaseCallFrom p) s).offerPortsChanged old

/-- R86: a second of the call's age has passed, while the age advances. -/
def State.ageDue (s : State) (c : Call) : Bool := s.powered && s.elapsed c.ageFrom 1

/-- R86: the age advances by 1 and the call may escalate. -/
def State.advanceAge (c : Call) (s : State) : State :=
  let c' := { c with age := satInc max16 c.age, ageFrom := c.ageFrom + 100 }
  let s := s.updCall c.number fun _ => c'
  if s.escalates c' then s.raiseCallKind c.number .urgent else s

end Sys2Proof.Machine
end

