-- ==== Sys2Proof/Machine/Roster.lean ====
section
/-!
DEFINITION. The Roster Unit (chapter 4): sightings, ageing and the figures of the muster. What a change of the figures
hands on stands in `Machine/Interlock.lean` (`State.settleMuster`), since it reaches the Interlock Table.
-/
namespace Sys2Proof.Machine

/-! ### Figures (R76, R77) -/

/-- R76: the state counts as unaccounted during WITHDRAW. -/
def MinerState.unaccounted : MinerState → Bool
  | .present | .missing => true
  | .inRefuge _ | .exited => false

def MinerState.isInRefuge : MinerState → Bool
  | .inRefuge _ => true
  | _ => false

/-- R76: the unaccounted count by its law. -/
def State.unaccountedNow (s : State) : Nat :=
  if s.withdrawal.state = .withdraw then s.roster.records.countP fun r => r.state.unaccounted else 0

/-- The figures of a MUSTER notice, with the unaccounted count as held. -/
def State.musterFigures (s : State) : MusterFigures :=
  { unaccounted := s.roster.unaccounted
    missing := s.roster.records.countP fun r => decide (r.state = .missing)
    inRefuge := s.roster.records.countP fun r => r.state.isInRefuge
    overflow := s.roster.overflow }

/-- R125: the number of IN_REFUGE records that name a refuge. -/
def State.occupantsOf (s : State) (n : RefugeNo) : Nat :=
  s.roster.records.countP fun r => decide (r.state = .inRefuge n)

/-! ### Refuges as the roster and the zones leave them (R125 to R127) -/

/-- R126: the impaired flag of a refuge. -/
def State.impairedNow (s : State) (n : RefugeNo) (r : RefugeRec) : Bool :=
  match (s.image.refuge n).zone with
  | none => false
  | some z => r.airLow || r.batteryLow || r.overCapacity || decide (Level.trip.rank ≤ s.zones[z.1].level.rank)

/-- R125 to R127: a refuge's occupants, OVER_CAPACITY, impaired flag and beacon pattern, judged afresh. -/
def State.judgeRefuge (s : State) (n : RefugeNo) (r : RefugeRec) : RefugeRec :=
  let occ := s.occupantsOf n
  let r := { r with occupants := occ, overCapacity := decide ((s.image.refuge n).capacity < occ) }
  let r := { r with impaired := s.impairedNow n r }
  { r with pattern := if (s.image.refuge n).zone.isSome then beaconPattern s.withdrawal.state r.impaired else .off }

/-- Judge every refuge afresh. -/
def State.judgeRefuges (s : State) : State := { s with refuges := updAll s.refuges s.judgeRefuge }

/-! ### Ageing (R70 to R72) -/

/-- R71: the missing limit in force. -/
def State.missingLimit (s : State) : Nat :=
  if s.withdrawal.state = .withdraw then s.image.missingWithdraw else s.image.missingNormal

/-- R71: a PRESENT record whose unseen has reached the limit becomes MISSING. -/
def State.ageRec (s : State) (r : RosterRec) : RosterRec :=
  if r.state = .present ∧ s.missingLimit ≤ r.unseen then { r with state := .missing } else r

/-- R72: an EXITED record whose linger has run out, outside WITHDRAW. -/
def State.lingerOver (s : State) (r : RosterRec) : Bool :=
  decide (r.state = .exited) && decide (s.withdrawal.state ≠ .withdraw) && decide (s.image.exitLinger ≤ r.unseen)

/-- R71, R72: every record is tested against the limits in force; a record that leaves clears ROSTER_FULL (R68). -/
def State.ageRoster (s : State) : State :=
  let kept := (s.roster.records.map s.ageRec).filter fun r => !s.lingerOver r
  { s with roster := { s.roster with
      records := kept, full := s.roster.full && decide (kept.length = s.roster.records.length) } }

/-- R70: a whole second of a record's unseen time has passed, while it is counted. -/
def State.unseenDue (s : State) (r : RosterRec) : Bool := s.running && s.powered && s.elapsed r.unseenFrom 1

/-- R70 to R72: a record's unseen advances by 1, and its state's ageing takes the advance. -/
def State.advanceUnseen (t : Tag) (s : State) : State :=
  let s := s.updMiner t fun r => { r with unseen := satInc max16 r.unseen, unseenFrom := r.unseenFrom + 100 }
  let recs := s.roster.records.map fun r => if r.tag = t then s.ageRec r else r
  let kept := recs.filter fun r => !(decide (r.tag = t) && s.lingerOver r)
  { s with roster := { s.roster with
      records := kept, full := s.roster.full && decide (kept.length = s.roster.records.length) } }

/-- R72: when the withdrawal state leaves WITHDRAW the linger of every EXITED record restarts. -/
def State.restartLinger (s : State) : State :=
  { s with roster := { s.roster with records := s.roster.records.map fun r =>
      if r.state = .exited then { r with unseen := 0, unseenFrom := s.tick } else r } }

/-! ### Sightings (R63 to R69) -/

/-- R65: the state a sighting by a reader gives. A REFUGE reader whose zone is no refuge's zone, which R64's validation
keeps out of every image, is taken as an ORDINARY one (DESIGN CHOICE, log 19). -/
def State.sightedState (s : State) (sub : ReaderSubtype) (z : Zone) : MinerState :=
  match sub with
  | .ordinary => .present
  | .exitReader => .exited
  | .refuge =>
    match s.image.refugeOfZone z with
    | some n => .inRefuge n
    | none => .present

/-- R66: the record of a tag seen for the first time. -/
def State.newMiner (s : State) (t : Tag) (st : MinerState) (z : Zone) : RosterRec :=
  { tag := t, state := st, zone := z, entry := s.now, lastSeen := s.now, unseen := 0, unseenFrom := s.tick
    openCall := (s.openCall t).map Call.number }

def State.setRecords (rs : List RosterRec) (s : State) : State := { s with roster := { s.roster with records := rs } }

/-- R65 to R69: one sighting taken into the records, with the reader's subtype and zone. -/
def State.sightRecord (t : Tag) (sub : ReaderSubtype) (z : Zone) (s : State) : State :=
  let st := s.sightedState sub z
  if !validTag t then { s with roster := { s.roster with ignored := satInc max16 s.roster.ignored } }
  else if (s.miner t).isSome then
    s.updMiner t fun r =>
      { r with state := st, zone := z, lastSeen := s.now, unseen := 0, unseenFrom := s.tick }
  else if s.roster.records.length < 256 then s.setRecords (s.roster.records ++ [s.newMiner t st z])
  else if s.roster.records.any fun r => decide (r.state = .exited) then
    let rest := s.roster.records.eraseP fun r => decide (r.state = .exited)
    { s with roster := { s.roster with
        records := rest ++ [s.newMiner t st z], evictions := satInc max16 s.roster.evictions, full := false } }
  else { s with roster := { s.roster with overflow := satInc max16 s.roster.overflow, full := true } }

/-- R72: with an exit_linger of 0 an EXITED record leaves as soon as it becomes EXITED. -/
def State.lingerAtOnce (t : Tag) (s : State) : State :=
  let kept := s.roster.records.filter fun r => !(decide (r.tag = t) && s.lingerOver r)
  { s with roster := { s.roster with
      records := kept, full := s.roster.full && decide (kept.length = s.roster.records.length) } }

end Sys2Proof.Machine
end

