-- ==== Sys2Proof/Machine/Interlock.lean ====
section
/-!
DEFINITION. The Interlock Table (8.1 to 8.4), the withdrawal state's changes and their handing-on (7.4, 7.5), and the
muster's figures (R76, R77). A raise may fire entries and a firing may raise, so the chain of R144 carries a fuel: it
holds at most two changes of the withdrawal state, and the fuel of 3 that `State.raise` gives is never spent.
-/
namespace Sys2Proof.Machine

/-! ### Conditions (R139) -/

/-- R139: whether a condition holds. -/
def State.conditionHolds (s : State) : Condition → Bool
  | .never => false
  | .zoneAt mask g => (List.finRange 16).any fun z => inMask mask z.1 && decide (g.level.rank ≤ s.zones[z.1].level.rank)
  | .pointBeyond pt v ge =>
    match s.points[pt.1].s with
    | some x => if ge then decide (v ≤ x) else decide (x ≤ v)
    | none => false
  | .stationLost none => false
  | .stationLost (some st) =>
    match s.stations[st.1] with
    | some r => decide (r.state = .lost)
    | none => false
  | .doorIs n d => decide (s.refuges[n.1].door = d)
  | .unaccountedAbove n => decide (n < s.roster.unaccounted)
  | .withdrawalAt w => decide (w.rank ≤ s.withdrawal.state.rank)
  | .truckLostAny => s.truckLostAny

/-! ### Level actions (R142) -/

def Action.signalMask : Action → Nat
  | .signal m => m
  | _ => 0

def Action.tripMask : Action → Nat
  | .trip m => m
  | _ => 0

def Action.blockMask : Action → Nat
  | .block m => m
  | _ => 0

/-- R142: entry `n` holds the signal outputs and trip outputs of its action while `on`, and no others. -/
def State.holdOutputs (n : EntryNo) (a : Action) (on : Bool) (s : State) : State :=
  { s with
    signals := updAll s.signals fun k o => { o with holders := o.holders.set n.1 (on && inMask a.signalMask k.1) n.2 }
    trips := updAll s.trips fun k o => { o with holders := o.holders.set n.1 (on && inMask a.tripMask k.1) n.2 } }

/-- R142: apply or withdraw an entry's level action; each output and segment is judged at once. -/
def State.applyLevel (n : EntryNo) (a : Action) (on : Bool) (s : State) : State :=
  match a with
  | .signal _ => s.holdOutputs n a on
  | .trip _ => (s.holdOutputs n a on).evalTrips
  | .block m => s.interlockBlock n m on
  | _ => s

/-! ### Evaluation and firing (R138, R140, R141, R143) -/

/-- R138, R143: an entry fires, its RAISE acting through `raise`. -/
def State.fireWith (raise : WState → Cause → State → State) (n : EntryNo) (s : State) : State :=
  let s := s.updEntry n fun e => { e with fired := satInc 255 e.fired, lastFired := some s.now }
  let c := s.image.entry n
  match c.action with
  | .raise target => raise target (.interlock n) s
  | .call z => s.raiseCall none z .urgent
  | .notice => s.notify (.interlock n c.condition s.entries[n.1].fired s.entries[n.1].lastFired)
  | _ => s

/-- R141: evaluate one entry. An entry that a commit has changed waits for its rebuild (R145; DESIGN CHOICE, log 42). -/
def State.evalEntryWith (raise : WState → Cause → State → State) (n : EntryNo) (s : State) : State :=
  let c := s.image.entry n
  let holds := s.conditionHolds c.condition
  if !c.enabled || s.entries[n.1].rebuilding || s.entries[n.1].active == holds then s
  else
    let s := (s.updEntry n fun e => { e with active := holds }).applyLevel n c.action holds
    if holds then s.fireWith raise n else s

/-- R140: evaluate, in the order of their numbers, the entries whose conditions watch a changed state. -/
def State.evalWith (raise : WState → Cause → State → State) (watches : Condition → Bool) (s : State) : State :=
  forEach (List.finRange 24) (fun n s =>
    if watches (s.image.entry n).condition then s.evalEntryWith raise n else s) s

def Condition.watchesZone (z : Zone) : Condition → Bool
  | .zoneAt mask _ => inMask mask z.1
  | _ => false

def Condition.watchesPoint (pt : PointNo) : Condition → Bool
  | .pointBeyond p _ _ => decide (p = pt)
  | _ => false

def Condition.watchesStation (st : StationNo) : Condition → Bool
  | .stationLost x => decide (x = some st)
  | _ => false

def Condition.watchesDoor (n : RefugeNo) : Condition → Bool
  | .doorIs m _ => decide (m = n)
  | _ => false

def Condition.watchesUnaccounted : Condition → Bool
  | .unaccountedAbove _ => true
  | _ => false

def Condition.watchesWithdrawal : Condition → Bool
  | .withdrawalAt _ => true
  | _ => false

def Condition.watchesTrucks : Condition → Bool
  | .truckLostAny => true
  | _ => false

/-! ### Muster (R76, R77) -/

/-- R76, R77: after an event that found the figures `before`: recompute the unaccounted count; a change of it, or of
another figure during WITHDRAW, sends the event's one MUSTER notice, and a change of it evaluates the
UNACCOUNTED_ABOVE entries, in this order (DESIGN CHOICE, log 5). -/
def State.settleMusterWith (raise : WState → Cause → State → State) (before : MusterFigures) (s : State) : State :=
  let s := { s with roster := { s.roster with unaccounted := s.unaccountedNow } }
  let f := s.musterFigures
  if f.unaccounted ≠ before.unaccounted then (s.notify (.muster f)).evalWith raise Condition.watchesUnaccounted
  else if s.withdrawal.state = .withdraw ∧ f ≠ before then s.notify (.muster f)
  else s

/-! ### The withdrawal state (R128, R133) -/

/-- R71, R72: what a change of the withdrawal state from `old` does to the records. -/
def State.rosterTakesState (old : WState) (s : State) : State :=
  if old ≠ .withdraw ∧ s.withdrawal.state = .withdraw then s.ageRoster
  else if old = .withdraw ∧ s.withdrawal.state ≠ .withdraw then s.restartLinger.ageRoster
  else s

/-- R128, R133: the state changes, and the change is handed on to the Roster Unit, the Haulage Controller, the refuge
beacons, the ports and the Interlock Table; the Output Drivers are judged at the end of the command. -/
def State.changeStateWith (raise : WState → Cause → State → State) (target : WState) (cause : Cause) (s : State) :
    State :=
  let old := s.withdrawal.state
  let before := s.musterFigures
  let s := { s with withdrawal := { state := target, since := s.now, cause := some cause } }
  let s := (s.rosterTakesState old).settleMusterWith raise before
  let s := if target = .withdraw then s.withdrawCut else s
  let s := s.judgeRefuges
  let s := s.notify (.withdrawal old target (some cause) s.withdrawal.since s.roster.unaccounted)
  s.evalWith raise Condition.watchesWithdrawal

/-- R128: the state is raised only while RUNNING or during HOLDUP. -/
def State.mayRaise (s : State) : Bool := s.running || decide (s.supply.state = .holdup)

/-- R128: a raise; at or below the present state it changes nothing. -/
def State.raiseN : Nat → WState → Cause → State → State
  | 0, _, _, s => s
  | fuel + 1, target, cause, s =>
    if s.mayRaise && decide (s.withdrawal.state.rank < target.rank) then
      s.changeStateWith (State.raiseN fuel) target cause
    else s

/-- R128: raise the withdrawal state. -/
def State.raise (target : WState) (cause : Cause) (s : State) : State := State.raiseN 3 target cause s

/-- R140: evaluate the entries that watch a changed state. -/
def State.evalWhere (watches : Condition → Bool) (s : State) : State := s.evalWith State.raise watches

/-- R76, R77 at an event outside a change of the withdrawal state. -/
def State.settleMuster (before : MusterFigures) (s : State) : State := s.settleMusterWith State.raise before

/-- R132: the state lowered by one step, handed on like a raise (R133). -/
def State.lower (target : WState) (p : PortId) (s : State) : State :=
  s.changeStateWith State.raise target (.standDown p)

/-- R98, R140: an operation on trucks, with the TRUCK_LOST_ANY entries evaluated when the first truck became LOST or
the last one left LOST. They are evaluated after the whole operation, a report's five stages among it (DESIGN CHOICE,
log 47). -/
def State.watchTrucks (f : State → State) (s : State) : State :=
  let s' := f s
  if s'.truckLostAny = s.truckLostAny then s' else s'.evalWhere Condition.watchesTrucks

/-! ### Refuge doors (R123, R124) -/

/-- R123: a refuge's door takes a value; a change takes the present time and is handed on to the Interlock Table and,
when it is to SEALED in NORMAL, raises the state to ALERT (R129), in this order: a RAISE entry that the door fires gives
the cause (DESIGN CHOICE, log 5). -/
def State.setDoor (n : RefugeNo) (d : Door) (s : State) : State :=
  if s.refuges[n.1].door = d then s
  else
    let s := s.updRefuge n fun r => { r with door := d, doorSince := some s.now }
    let s := s.evalWhere (Condition.watchesDoor n)
    if d = .isSealed ∧ s.withdrawal.state = .normal then s.raise .alert (.doorSealed n) else s

/-- R123: the door a code names, if any. -/
def doorCode (n : Nat) : Option Door :=
  match n with
  | 1 => some .opened
  | 2 => some .closed
  | 3 => some .isSealed
  | _ => none

/-- R123: a good reply of the refuge's panel. -/
def State.panelReply (n : RefugeNo) (code : Nat) (airLow batteryLow : Bool) (s : State) : State :=
  let s := s.updRefuge n fun r => { r with
    airLow := airLow, batteryLow := batteryLow
    doorFaults := if (doorCode code).isNone then satInc max16 r.doorFaults else r.doorFaults }
  s.judgeRefuges.setDoor n ((doorCode code).getD .unknown)

/-! ### Sightings (R65 to R69, R72, R74, R76) -/

/-- One sighting taken by the Roster Unit and handed on. -/
def State.sight (t : Tag) (sub : ReaderSubtype) (z : Zone) (s : State) : State :=
  let before := s.musterFigures
  (((s.sightRecord t sub z).lingerAtOnce t).judgeRefuges).settleMuster before

end Sys2Proof.Machine
end

