-- ==== Sys2Proof/Machine/Zones.lean ====
section
/-!
DEFINITION. The Zone Alarm Controller (chapter 3): zone levels, the alarm list, the trip latches and the forced trips.
-/
namespace Sys2Proof.Machine

/-! ### The alarm list (3.4) -/

def AlarmRec.is (z : Zone) (g : Grade) (r : AlarmRec) : Bool := decide (r.zone = z) && decide (r.level = g)

def State.alarm (s : State) (z : Zone) (g : Grade) : Option AlarmRec := s.alarms.find? (AlarmRec.is z g)

def State.updAlarm (z : Zone) (g : Grade) (f : AlarmRec → AlarmRec) (s : State) : State :=
  { s with alarms := s.alarms.map fun r => if r.is z g then f r else r }

def State.dropAlarm (z : Zone) (g : Grade) (s : State) : State :=
  { s with alarms := s.alarms.filter fun r => !r.is z g }

/-- R52: one level crossed upward. -/
def State.raiseAlarm (z : Zone) (g : Grade) (s : State) : State :=
  match s.alarm z g with
  | none =>
    State.notify (.alarm z g (some .activeUnack) none (some 1)) { s with alarms := s.alarms ++
        [{ zone := z, level := g, state := .activeUnack, raised := s.now, count := 1 }] }
  | some r =>
    if r.state = .clearedUnack then
      (s.updAlarm z g fun r => { r with state := .activeUnack, count := satInc 255 r.count }).notify
        (.alarm z g (some .activeUnack) none (some (satInc 255 r.count)))
    else s

/-- R53: one level crossed downward. -/
def State.fallAlarm (z : Zone) (g : Grade) (s : State) : State :=
  match s.alarm z g with
  | none => s
  | some r =>
    match r.state with
    | .activeAcked p => (s.dropAlarm z g).notify (.alarm z g none (some p) none)
    | .activeUnack =>
      (s.updAlarm z g fun r => { r with state := .clearedUnack }).notify
        (.alarm z g (some .clearedUnack) none none)
    | .clearedUnack => s

/-- R52, R53: the alarm list takes a change of a zone's level. The levels of a fall are dealt with in rising order, as R52
deals with those of a rise (DESIGN CHOICE, log 5). -/
def State.alarmsTake (z : Zone) (old new : Level) (s : State) : State :=
  if old.rank < new.rank then
    forEach (Grade.all.filter fun g => decide (old.rank < g.level.rank ∧ g.level.rank ≤ new.rank))
      (State.raiseAlarm z) s
  else
    forEach (Grade.all.filter fun g => decide (new.rank < g.level.rank ∧ g.level.rank ≤ old.rank))
      (State.fallAlarm z) s

/-! ### Trip latches (3.5) -/

/-- R55: the latch is set, with its notice, GAS and the trip outputs, in this order, so the TRUCK notices go ahead of the
outputs' TRIP notices (DESIGN CHOICE, log 5). -/
def State.setLatch (z : Zone) (s : State) : State :=
  (((s.updZone z fun r => { r with latch := true, latchedAt := some s.now }).notify (.tripLatch z true)).setGas
    z).evalTrips

/-- R55, R56: the latch is cleared, with its notice, GAS and the trip outputs, in this order (DESIGN CHOICE, log 5). -/
def State.clearLatch (z : Zone) (s : State) : State :=
  (((s.updZone z fun r => { r with latch := false, latchedAt := none }).notify (.tripLatch z false)).clearGas
    z).evalTrips

def Level.isTrip (l : Level) : Bool := decide (Level.trip.rank ≤ l.rank)

/-- R55: the latch takes a zone's new level. -/
def State.latchTakes (z : Zone) (new : Level) (s : State) : State :=
  if new.isTrip && !s.zones[z.1].latch then s.setLatch z else s

/-! ### Zone levels (3.3) -/

/-- R50: a contributing point of a zone. -/
def State.contributes (s : State) (z : Zone) (pt : PointNo) : Bool :=
  s.image.inUse pt && decide ((s.image.point pt).zone = z) && !s.points[pt.1].flags.suspended

/-- R48, R50: a stale source of a zone. -/
def State.staleSource (s : State) (z : Zone) (pt : PointNo) : Bool :=
  s.image.inUse pt && decide ((s.image.point pt).zone = z) && s.points[pt.1].staleTrip

/-- R50: a zone's level as its points give it. -/
def State.zoneLevelNow (s : State) (z : Zone) : Level :=
  (List.finRange 96).foldl (fun l pt =>
    let l := if s.contributes z pt then l.max s.points[pt.1].levels.level else l
    if s.staleSource z pt then l.max .trip else l) .none

/-- R129: the raise that a zone's change of level makes. -/
def State.zoneRaises (z : Zone) (old new : Level) (s : State) : State :=
  if new = .withdraw then s.raise .withdraw (.zoneWithdraw z)
  else if new = .trip ∧ old.rank < Level.trip.rank then s.raise .alert (.zoneTrip z)
  else s

/-- R51: a zone takes a new level, and the change is handed on. -/
def State.setZoneLevel (z : Zone) (new : Level) (s : State) : State :=
  let old := s.zones[z.1].level
  let s := (s.updZone z fun r => { r with level := new }).notify (.zone z old new)
  let s := (s.alarmsTake z old new).latchTakes z new
  (s.judgeRefuges.zoneRaises z old new).evalWhere (Condition.watchesZone z)

/-- R50: recompute a zone's level. -/
def State.recomputeZone (z : Zone) (s : State) : State :=
  let new := s.zoneLevelNow z
  if new = s.zones[z.1].level then s else s.setZoneLevel z new

/-- R50: recompute the level of every zone, in zone order. -/
def State.recomputeZones (s : State) : State := forEach (List.finRange 16) State.recomputeZone s

/-! ### Requests upon them (R54, R56 to R58) -/

/-- R58: a forced flag takes a value; the notice of the flag goes first (R61). It names the state that the output has after
the re-evaluation which the flag causes, at a RESET_TRIP too (DESIGN CHOICE, log 50). -/
def State.setForced (k : OutNo) (on : Bool) (s : State) : State :=
  let s := s.updTrip k fun o => { o with forced := on }
  let opened := tripWanted (s.tripConds k).any s.monitor.fault s.trips[k.1].isOpen
  (s.notify (.tripForce k opened on)).evalTrips

/-- R132: the zones at a level or above it. -/
def State.zonesAt (s : State) (l : Level) : List Zone :=
  (List.finRange 16).filter fun z => decide (l.rank ≤ s.zones[z.1].level.rank)

def State.sealedRefuges (s : State) : List RefugeNo :=
  (List.finRange 4).filter fun n => decide (s.refuges[n.1].door = .isSealed)

end Sys2Proof.Machine
end

