-- ==== Sys2Proof/Machine/Integrity.lean ====
section
/-!
DEFINITION. The Integrity Monitor (10.3) and the calibration write-back (R37), with the making of a response (R156).
-/
namespace Sys2Proof.Machine

/-- R156: a response is made, and takes the line at the end of the notice being sent, if one is being sent, or else at
once. The time it takes on the line is not modelled (DESIGN CHOICE, log 8). -/
def PortRec.make (r : Response) (x : PortRec) : PortRec :=
  if x.notices.isEmpty then { x with responses := x.responses ++ [r], sent := x.sent ++ [.response r] }
  else { x with responses := x.responses ++ [r], held := x.held ++ [r] }

/-- R156: a port makes a response. -/
def State.respond (p : PortId) (r : Response) (s : State) : State := s.updPort p (PortRec.make r)

/-- The response to the CHECK_CLEAR whose pass has ended; none once its port has gone DOWN (R169). -/
def State.answerCheck (who : Option (PortId × Byte)) (res : Result) (s : State) : State :=
  match who with
  | some (p, tag) => s.respond p { kind := 0x94#8, tag := tag, result := res, detail := .none }
  | none => s

def State.setPass (p : Option Pass) (s : State) : State := { s with monitor := { s.monitor with pass := p } }

/-- R168, R169: a change of the image abandons the pass in flight, and a CHECK_CLEAR so abandoned is answered BUSY. -/
def State.abandonPass (s : State) : State :=
  match s.monitor.pass with
  | some (.checkClear who) => (s.answerCheck who .busy).setPass none
  | _ => s.setPass none

/-- R169: a CHECK_CLEAR in flight is answered BUSY and its pass abandoned; a regular pass goes on. -/
def State.abandonCheck (s : State) : State :=
  match s.monitor.pass with
  | some (.checkClear _) => s.abandonPass
  | _ => s

/-- R169: the SETTINGS_FAULT latch is set, and handed on; a set latch stays as it is. -/
def State.latchFault (result : BitVec 32) (s : State) : State :=
  if s.monitor.fault then s
  else (State.notify (.settingsFault result) { s with monitor := { s.monitor with fault := true } }).evalTrips

/-- R169: the latch is cleared by a matching CHECK_CLEAR pass. -/
def State.unlatchFault (s : State) : State :=
  (State.notify .settingsCleared { s with monitor := { s.monitor with fault := false } }).evalTrips

/-- R168: a pass completes: the counters advance and the check value is published. -/
def State.countPass (s : State) : State :=
  let rolling := wrapInc 4 s.monitor.rolling
  { s with monitor := { s.monitor with
    pass := none
    passes := wrapInc 65536 s.monitor.passes
    rolling := rolling
    published := some (if s.image.rollingMode then s.image.rollingCrc rolling else s.image.crc) } }

/-- R168, R169: the pass in flight completes. The response of a CHECK_CLEAR goes ahead of the notices that its end
causes (R156). -/
def State.completePass (s : State) : State :=
  let result := s.image.crc
  let good := decide (s.settings.reference = some result)
  match s.monitor.pass with
  | none => s
  | some .regular => if good then s.countPass else s.countPass.latchFault result
  | some (.checkClear who) =>
    if good then (s.countPass.answerCheck who .done).unlatchFault
    else (s.countPass.answerCheck who (.refused .mismatch)).latchFault result

/-- R170: the restore pass. -/
def State.restorePass (s : State) : State :=
  if s.settings.reference = some s.image.crc then s.countPass else s.countPass.latchFault s.image.crc

/-- R168: the integrity period has passed. -/
def State.periodDue (s : State) : Bool := s.running && s.elapsed s.monitor.periodFrom s.monitor.period

/-- R168, R169: a pass starts as the period passes; the period that follows is the one the image now gives. A pass
still in flight goes on and no second one starts (DESIGN CHOICE, log 12). -/
def State.startPass (s : State) : State :=
  { s with monitor := { s.monitor with
    pass := s.monitor.pass.or (some .regular)
    periodFrom := s.monitor.periodFrom + s.monitor.period * 100
    period := s.image.integrityPeriod } }

/-- The Settings Store takes an image: the reference is recomputed over it and a pass in flight is abandoned (R37,
R167). -/
def State.takeImage (img : Image) (s : State) : State :=
  State.abandonPass { s with settings := { s.settings with active := some img, reference := some img.crc } }

end Sys2Proof.Machine
end

