-- ==== Sys2Proof/Machine/Points.lean ====
section
/-!
DEFINITION. The Reading Pipeline over the state: channel reports and samples (R19, R31), stale and suspended points
(R32, R33), the fail-safe contribution (R48, R49) and the ends of a calibration (R37, R38).
-/
namespace Sys2Proof.Machine

/-! ### Samples (R19, R31, R41, R49) -/

/-- R46: the level states are frozen. -/
def PointFlags.frozen (f : PointFlags) : Bool := f.cal || f.stale || f.suspended

/-- R41: a sample's s and rise taken into the level states. -/
def State.levelsTake (pt : PointNo) (s : State) : State :=
  let cfg := s.image.point pt
  s.updPoint pt fun p =>
    match p.s with
    | some x =>
      if p.flags.frozen then p
      else { p with levels := sampleLevels cfg (s.image.dwellTable cfg.kind) x p.rise p.levels }
    | none => p

/-- R49: the stale TRIP flag is cleared. -/
def State.clearStaleTrip (pt : PointNo) (s : State) : State := s.updPoint pt fun p => { p with staleTrip := false }

/-- R31: a sample that has passed the four stages is handed on to the Zone Alarm Controller and to the Interlock Table,
in this order (DESIGN CHOICE, log 5). -/
def State.handSample (pt : PointNo) (s : State) : State :=
  let z := (s.image.point pt).zone
  let s := ((s.levelsTake pt).recomputeZone z).clearStaleTrip pt
  (s.recomputeZone z).evalWhere (Condition.watchesPoint pt)

/-- R19: a sample passes through the four stages of the pipeline. -/
def State.takeSample (pt : PointNo) (temp : Option Int) (raw : Nat) (s : State) : State :=
  let cfg := s.image.point pt
  let s := s.updPoint pt fun p =>
    { pipeline cfg (s.image.comp cfg.kind) temp raw p with lastSample := some s.now }
  s.handSample pt

/-- R9: an unmapped item of a line. -/
def State.unmapped (ln : LineNo) (s : State) : State :=
  s.updLine ln fun l => { l with unmapped := satInc max16 l.unmapped }

/-- R19: one channel report of a reply of station `st`. A report with status FAULT for a point that carries CAL goes the
way of CAL, and `rejected` stays as it was (DESIGN CHOICE, log 43). -/
def State.channelReport (st : StationNo) (temp : Option Int) (c : ChannelReport) (s : State) : State :=
  match s.image.pointAt st c.channel with
  | none => s.unmapped (stationLine st)
  | some pt =>
    let raw := clampRaw c.raw
    let s := s.updPoint pt fun p => { p with lastRaw := some raw, lastTemp := temp }
    if s.points[pt.1].flags.cal then s
    else if !c.ok then s.updPoint pt fun p => { p with rejected := satInc max16 p.rejected }
    else s.takeSample pt temp raw

/-! ### Stale and suspended (R32, R33) -/

/-- R32: a point becomes STALE. -/
def PointRt.becomeStale (now : Secs) (tick : Tick) (p : PointRt) : PointRt :=
  { p with flags := { p.flags with stale := true }, staleSince := some now, staleTick := some tick }

/-- R32: a point stops being STALE. -/
def PointRt.endStale (p : PointRt) : PointRt :=
  { p with flags := { p.flags with stale := false }, staleSince := none, staleTick := none }

/-- R33, R49: a point becomes SUSPENDED. -/
def PointRt.becomeSuspended (p : PointRt) : PointRt :=
  { p with flags := { p.flags with suspended := true }, staleTrip := false }

/-- R33: a point stops being SUSPENDED. -/
def PointRt.endSuspended (p : PointRt) : PointRt := { p with flags := { p.flags with suspended := false } }

/-- R30, R32, R33: a point follows its station from one state to another. -/
def PointRt.follow (now : Secs) (tick : Tick) (old new : StationState) (p : PointRt) : PointRt :=
  let p := if old = .lost then { p.endStale with reseed := true } else p
  let p := if old = .skipped then { p.endSuspended with reseed := true } else p
  if new = .lost then p.becomeStale now tick
  else if new = .skipped then p.becomeSuspended
  else p

/-- R11: the points of a station follow its change of state. -/
def State.pointsFollow (st : StationNo) (old new : StationState) (s : State) : State :=
  forEach (s.image.pointsOf st) (fun pt => State.updPoint pt (PointRt.follow s.now s.tick old new)) s

/-- R50: the zones are recomputed at a change of their points; a commit waits until every point has been dealt with
(R47). -/
inductive ZonesWhen where
  | atOnce
  | later
deriving DecidableEq, Repr

/-- Recompute the zone levels now, or leave it to the commit in hand. -/
def State.recomputeWhen (w : ZonesWhen) (s : State) : State :=
  match w with
  | .atOnce => s.recomputeZones
  | .later => s

/-! ### Stale fail-safe contribution (R48) -/

/-- R48: a fail-safe point has been STALE for its stale_limit and its flag is not yet set. -/
def State.staleDue (s : State) (pt : PointNo) : Bool :=
  let p := s.points[pt.1]
  s.image.inUse pt && (s.image.point pt).failSafe && p.flags.stale && !p.staleTrip &&
    match p.staleTick with
    | some t => s.elapsed t (s.image.point pt).staleLimit
    | none => false

/-- R48: the stale TRIP flag is set, and the zone level recomputed. -/
def State.setStaleTrip (pt : PointNo) (s : State) : State :=
  (s.updPoint pt fun p => { p with staleTrip := true }).recomputeZone (s.image.point pt).zone

/-! ### The ends of a calibration (R17, R37, R38) -/

/-- R17: the slot of a line becomes empty and the point loses CAL. -/
def State.endCal (ln : LineNo) (c : Calibration) (s : State) : State :=
  (s.updLine ln fun l => { l with slot := none }).updPoint c.point fun p => { p with flags := { p.flags with cal := false } }

/-- R38: the calibration in a line's slot, if any, ends as failed. -/
def State.failCal (ln : LineNo) (cause : CalCause) (s : State) : State :=
  match (s.line ln).slot with
  | some c => (s.endCal ln c).notify (.calFailed c.point cause)
  | none => s

/-- R17: a calibration of a station fails when the station becomes LOST or SKIPPED. -/
def State.failCalOf (st : StationNo) (cause : CalCause) (s : State) : State :=
  match (s.line (stationLine st)).slot with
  | some c => if c.station = st then s.failCal (stationLine st) cause else s
  | none => s

/-- R37: a calibration result in a good reply of a station; without a matching calibration it is an unmapped item
(R9). -/
def State.calResult (st : StationNo) (count : Nat) (s : State) : State :=
  let ln := stationLine st
  match (s.line ln).slot with
  | some c =>
    if c.station ≠ st then s.unmapped ln
    else if count ≤ 1023 then
      ((s.endCal ln c).takeImage (s.image.writeZero c.point count)).notify
        (.calDone c.point (s.image.point c.point).zero count)
    else s.failCal ln .resultRange
  | none => s.unmapped ln

end Sys2Proof.Machine
end

