-- ==== Sys2Proof/Machine/Lines.lean ====
section
/-!
DEFINITION. The Field Line Controllers (chapter 1): the station records and what a change of them hands on (R11),
passes and polls (R1 to R5), the ends of a poll (R6 to R10), battery polling (R12), the snapshot (R13), and the delivery
of lamp items and truck demands (R14, R15).
-/
namespace Sys2Proof.Machine

/-! ### A station's state (R8, R10, R11) -/

/-- R122: the refuge whose panel a station is. -/
def State.refugeOf (s : State) (st : StationNo) : Option RefugeNo :=
  (List.finRange 4).find? fun n => decide (s.image.panel n = some st)

/-- R11: a change of a station's state is handed on to its points, a calibration of it, its refuge's door and the
STATION_LOST entries. All the points take the change before a zone is recomputed, and each zone is recomputed once
(DESIGN CHOICE, log 5). -/
def State.handStation (w : ZonesWhen) (st : StationNo) (old new : StationState) (s : State) : State :=
  if old = new then s
  else
    let s := (s.pointsFollow st old new).recomputeWhen w
    let s := if new = .lost then s.failCalOf st .stationLost
      else if new = .skipped then s.failCalOf st .stationSkipped else s
    let s := if old = .online then
        match s.refugeOf st with
        | some n => s.setDoor n .unknown
        | none => s
      else s
    if (old = .lost) ↔ (new = .lost) then s else s.evalWhere (Condition.watchesStation st)

/-- The STATION notice of a change of state: one into LOST names the misses (R10), one out of LOST by a good reply names
the misses before it (R8), and one out of LOST otherwise names the new state (R12, R13). -/
def State.stationNotice (st : StationNo) (old new : StationState) (before after : Nat) (s : State) : State :=
  if old ≠ .lost ∧ new = .lost then s.notify (.station st .lost (some after))
  else if old = .lost ∧ new = .online then s.notify (.station st .online (some before))
  else if old = .lost ∧ new ≠ .lost then s.notify (.station st new none)
  else s

/-- A station's record takes a new state and what comes with it, and the change is reported and handed on. -/
def State.moveStation (w : ZonesWhen) (st : StationNo) (new : StationState) (f : StationRec → StationRec) (s : State) : State :=
  match s.stations[st.1] with
  | none => s
  | some r =>
    let s := s.updStation st fun x => { f x with state := new }
    (s.stationNotice st r.state new r.misses (f r).misses).handStation w st r.state new

/-- R10: a miss. -/
def State.miss (st : StationNo) (s : State) : State :=
  match s.stations[st.1] with
  | none => s
  | some r =>
    let limit := s.image.missLimit
    let n := if r.state = .lost then limit else min (r.misses + 1) limit
    s.moveStation .atOnce st (if n < limit then .missed else .lost) fun x => { x with misses := n }

/-- R7: a bad reply is counted, and the poll is a miss. -/
def State.badReply (st : StationNo) (s : State) : State :=
  (s.updStation st fun x => { x with bad := satInc max16 x.bad }).miss st

/-- R8: a good reply changes the station's record. -/
def State.heardFrom (st : StationNo) (s : State) : State :=
  s.moveStation .atOnce st .online fun x =>
    { x with misses := 0, replies := wrapInc 256 x.replies, lastReply := some s.now }

/-! ### Delivery (R14, R15) -/

/-- R14: a carried lamp item leaves the list when its kind is still the kind that was carried. -/
def State.deliverLamps (st : StationNo) (items : List LampItem) (s : State) : State :=
  s.updStation st fun x => { x with lamps := x.lamps.filter fun i => !items.contains i }

/-- R15: a carried demand that is unchanged leaves the delivery order; a changed one moves to its end. -/
def State.deliverDemand (d : CarriedDemand) (s : State) : State :=
  if d.truck ∈ s.delivery then
    let rest := s.delivery.filter fun t => t ≠ d.truck
    if s.trucks[d.truck.1].view = some d.demand then { s with delivery := rest }
    else { s with delivery := rest ++ [d.truck] }
  else s

/-- R8: what the request of a poll carried is delivered. Where both demands of one request have changed in flight, they
go to the end of the delivery order in the order carried (DESIGN CHOICE, log 39). -/
def State.deliver (p : Poll) (s : State) : State :=
  forEach p.demands State.deliverDemand (s.deliverLamps p.station p.lamps)

/-! ### The content of a good reply (R9) -/

/-- R9: one sighting handed to the Roster Unit and its press to the Call Queue. The reader's subtype and zone are those
of its record (R13). -/
def State.takeSighting (st : StationNo) (g : Sighting) (s : State) : State :=
  match s.stations[st.1] with
  | none => s
  | some r =>
    let s := s.sight g.tag r.subtype r.zone
    if validTag g.tag then s.takePress g.tag r.zone g.press else s

/-- R9: the content of a good reply of a station, handed on in the order the reply carries it. The content of a panel
that a commit has left without a refuge reaches no block (DESIGN CHOICE, log 34). -/
def State.takeContent (st : StationNo) (b : ReplyBody) (s : State) : State :=
  match b with
  | .sensorHead temp result chans =>
    let s := forEach chans (State.channelReport st temp) s
    match result with
    | some count => s.calResult st count
    | none => s
  | .zoneReader sightings => forEach sightings (State.takeSighting st) s
  | .roadBeacon reports => forEach reports (fun r => State.watchTrucks (State.truckReport st r)) s
  | .refugePanel door airLow batteryLow =>
    match s.refugeOf st with
    | some n => s.panelReply n door airLow batteryLow
    | none => s

/-! ### Battery polling (R12) -/

/-- R12: the poll in flight on a station. -/
def State.pollOf (s : State) (st : StationNo) : Option Poll :=
  match (s.line (stationLine st)).poll with
  | some p => if p.station = st then some p else none
  | none => none

/-- A station in its line's poll list in use. -/
def State.polled (s : State) (st : StationNo) : Bool :=
  (s.line (stationLine st)).pollList.any fun e => decide (e.station = st)

/-- R12: the supply state is BATTERY and the station's zone is not in the battery poll mask. -/
def State.offMask (s : State) (r : StationRec) : Bool :=
  decide (s.supply.state = .battery) && !inMask s.image.batteryMask r.zone.1

/-- R12: a station becomes SKIPPED, with misses 0. -/
def State.skip (w : ZonesWhen) (st : StationNo) (s : State) : State := s.moveStation w st .skipped fun x => { x with misses := 0 }

/-- R12: note on a line's poll in flight whether its station is due to become SKIPPED. -/
def State.setDue (st : StationNo) (due : Bool) (s : State) : State :=
  match s.pollOf st with
  | some _ => s.updLine (stationLine st) fun l => { l with poll := l.poll.map fun p => { p with dueSkip := due } }
  | none => s

/-- R12: judge one station of a poll list in use: it becomes SKIPPED, at once or when its poll ends, or a SKIPPED one
becomes UNPOLLED. A station that is due to become SKIPPED, and whose zone or supply lets it be polled again before its poll
ends, is due no longer and keeps the state that the poll's outcome gives it (DESIGN CHOICE, log 48). -/
def State.judgeSkip (w : ZonesWhen) (st : StationNo) (s : State) : State :=
  match s.stations[st.1] with
  | none => s
  | some r =>
    if !s.polled st then s
    else if s.offMask r then
      if r.state = .skipped then s else if (s.pollOf st).isSome then s.setDue st true else s.skip w st
    else
      let s := s.setDue st false
      if r.state = .skipped then s.moveStation w st .unpolled id else s

/-- R12: judge every station, while the supply state is MAINS or BATTERY. -/
def State.judgeSkips (w : ZonesWhen) (s : State) : State :=
  if s.powered then forEach (List.finRange 62) (State.judgeSkip w) s else s

/-! ### The snapshot (R2, R13) -/

/-- A poll list's entry names a station. -/
def PollEntry.names (st : StationNo) (e : PollEntry) : Bool := decide (e.station = st)

/-- R13: a record as at a cold start, for the kind it now has. -/
def StationRec.reset (r : StationRec) : StationRec :=
  { r with counted := r.kind, state := .unpolled, misses := 0, replies := 0, bad := 0, lastReply := none, lamps := [] }

/-- R13: a commit has changed the station's kind since its line's last snapshot. -/
def StationRec.kindChanged (r : StationRec) : Bool := decide (r.counted ≠ r.kind)

/-- R13: a record as its line's next snapshot finds it, reset when the station's kind has changed. -/
def StationRec.fresh (r : StationRec) : StationRec := if r.kindChanged then r.reset else r

/-- R13, R12: what a snapshot makes of a station on the new poll list, which `listed` says it was on before. -/
def State.snapListed (st : StationNo) (r : StationRec) (listed : Bool) (s : State) : State :=
  let state := if s.offMask r then .skipped
    else if r.kindChanged || !listed then StationState.unpolled else r.state
  s.moveStation .atOnce st state fun _ => if state = .skipped then { r.fresh with misses := 0 } else r.fresh

/-- R13: what a snapshot makes of a station that is not on the new poll list; it is UNPOLLED (1.4). -/
def State.snapUnlisted (st : StationNo) (r : StationRec) (s : State) : State :=
  s.moveStation .atOnce st .unpolled fun _ => { r.fresh with misses := 0, lamps := [] }

/-- R13: a record whose station is no longer named leaves; one LOST is reported UNPOLLED. -/
def State.dropStation (st : StationNo) (r : StationRec) (s : State) : State :=
  let s := { s with stations := upd s.stations st fun _ => none }
  (s.stationNotice st r.state .unpolled r.misses 0).handStation .atOnce st r.state .unpolled

/-- R13: what a snapshot makes of one station, from the poll list in use before it and the new one. -/
def State.snapStation (old new : List PollEntry) (st : StationNo) (s : State) : State :=
  match s.stations[st.1] with
  | none => s
  | some r =>
    if (s.image.station st).kind.isNone then s.dropStation st r
    else if new.any (PollEntry.names st) then s.snapListed st r (old.any (PollEntry.names st))
    else s.snapUnlisted st r

/-- R2: the poll list of a line as the active image gives it, with the kinds. -/
def Image.pollEntries (img : Image) (ln : LineNo) : List PollEntry :=
  (img.pollList ln).filterMap fun st => (img.station st).kind.map fun k => { station := st, kind := k }

/-- R2, R13: the poll list snapshot of a line. -/
def State.snapshot (ln : LineNo) (s : State) : State :=
  let old := (s.line ln).pollList
  let new := s.image.pollEntries ln
  let s := s.updLine ln fun l => { l with pollList := new, cursor := 0 }
  forEach ((List.finRange 62).filter fun st => decide (stationLine st = ln)) (State.snapStation old new) s

/-! ### Polls and passes (R1 to R5) -/

/-- R5: the demands that a request to a beacon carries. -/
def State.demandsFor (s : State) (st : StationNo) : List CarriedDemand :=
  ((s.delivery.filter fun t => decide (s.trucks[t.1].lastBeacon = some st)).take 2).filterMap fun t =>
    match s.image.identity t, s.trucks[t.1].view with
    | some i, some v => some { truck := t, identity := i, demand := v }
    | _, _ => none

/-- R5, R16: the zero command of a request to a head. -/
def State.zeroFor (s : State) (st : StationNo) : Option Channel :=
  match (s.line (stationLine st)).slot with
  | some c => if c.station = st then some c.channel else none
  | none => none

/-- R14: the lamp items of a request to a reader. -/
def State.lampsFor (s : State) (st : StationNo) : List LampItem :=
  match s.stations[st.1] with
  | some r => r.lamps.take 8
  | none => []

/-- R127: the beacon pattern of a request to a panel; OFF to a panel that a commit has left without a refuge and that is
still polled until the next snapshot (DESIGN CHOICE, log 34). -/
def State.beaconFor (s : State) (st : StationNo) : Pattern :=
  match s.refugeOf st with
  | some n => s.refuges[n.1].pattern
  | none => .off

/-- R5: the request to a station is assembled from the present state. -/
def State.assemble (s : State) (e : PollEntry) : Poll :=
  { station := e.station, kind := e.kind
    zero := if e.kind = .sensorHead then s.zeroFor e.station else none
    lamps := if e.kind = .zoneReader then s.lampsFor e.station else []
    demands := if e.kind = .roadBeacon then s.demandsFor e.station else []
    beacon := if e.kind = .refugePanel then some (s.beaconFor e.station) else none
    dueSkip := false }

/-- A station that the walk of a pass passes over (R2). -/
def State.passedOver (s : State) (st : StationNo) : Bool :=
  match s.stations[st.1] with
  | some r => decide (r.state = .skipped)
  | none => true

/-- R2: the position of the next station to be polled, at or after the cursor, with its entry. -/
def State.nextTurn (s : State) : Nat → List PollEntry → Option (Nat × PollEntry)
  | _, [] => none
  | k, e :: l => if s.passedOver e.station then s.nextTurn (k + 1) l else some (k, e)

/-- R2, R5: the cursor moves to the next station that is not SKIPPED and its poll begins; past the last station the
pass ends and the line enters GAP. -/
def State.pollNext (ln : LineNo) (s : State) : State :=
  let l := s.line ln
  match s.nextTurn l.cursor (l.pollList.drop l.cursor) with
  | some (k, e) =>
    s.updLine ln fun l => { l with state := .polling, cursor := k, gapStart := none, poll := some (s.assemble e) }
  | none =>
    s.updLine ln fun l =>
      { l with state := .gap, cursor := l.pollList.length, gapStart := some s.tick, poll := none }

/-- R2: a pass begins. -/
def State.beginPass (ln : LineNo) (s : State) : State := (s.snapshot ln).pollNext ln

/-- R4: a line with no poll in flight stops. -/
def State.stopLine (ln : LineNo) (s : State) : State :=
  s.updLine ln fun l => { l with state := .stopped, gapStart := none, poll := none }

/-- R3: the gap of the present supply state, in ticks. -/
def State.gap (s : State) : Nat :=
  gapTicks (if s.supply.state = .battery then s.image.batteryGap else s.image.cycleGap)

/-- R2, R3: a line moves on from a poll that has ended. Where that ends the pass and the gap is 0, the next pass begins
as soon as the last has ended. A pass that polls no station is followed by GAP whatever the gap, so that one command
never holds an endless row of passes (DESIGN CHOICE, log 22). -/
def State.moveOn (ln : LineNo) (s : State) : State :=
  let t := s.pollNext ln
  if (t.line ln).state = .gap ∧ t.gap = 0 then t.beginPass ln else t

/-- R1, R4: the poll in flight of a line has ended: a station due to become SKIPPED becomes SKIPPED (R12), and the line
moves on, or stops in HOLDUP. -/
def State.endPoll (ln : LineNo) (s : State) : State :=
  match (s.line ln).poll with
  | none => s
  | some p =>
    let s := s.updLine ln fun l => { l with poll := none, cursor := l.cursor + 1 }
    let s := if p.dueSkip then s.skip .atOnce p.station else s
    if s.powered then s.moveOn ln else s.stopLine ln

/-- R3: a line in GAP has reached the end of its gap. -/
def State.gapDue (s : State) (ln : LineNo) : Bool :=
  decide ((s.line ln).state = .gap) && s.powered &&
    match (s.line ln).gapStart with
    | some g => decide (g + s.gap ≤ s.tick)
    | none => false

/-- R6 to R9: a reply is taken. -/
def State.takeReply (p : Poll) (bytes : List Byte) (s : State) : State :=
  match goodReply p.station p.kind bytes with
  | some b => ((s.heardFrom p.station).deliver p).takeContent p.station b
  | none => s.badReply p.station

end Sys2Proof.Machine
end

