-- ==== Sys2Proof/Machine/Validate.lean ====
section
/-!
DEFINITION. The validation of a shadow image (R166): each record's spare fields and ranges, then its checks against
other records; sections in image order, records in record order, the first failure ending it. Which check is made first
where R166 gives no order, and what it makes of unused records, is a DESIGN CHOICE (log 21).
-/
namespace Sys2Proof.Machine

/-! ### Pieces -/

/-- The first failure of a list of checks, each absent when it passes. -/
def firstFail (cs : List (Option Check)) : Option Check := cs.findSome? id

/-- A check that fails unless `ok`. -/
def require (ok : Bool) (c : Check) : Option Check := if ok then none else some c

/-- SPARE: the first of the given bytes that is not 0. -/
def spares (r : Rec) (offsets : List Nat) : Option Check :=
  (offsets.find? fun i => byteAt r i ≠ 0).map Check.spare

/-- The offsets from `a` up to, and not including, `b`. -/
def offsets (a b : Nat) : List Nat := (List.range (b - a)).map fun i => a + i

def within (a b n : Nat) : Bool := decide (a ≤ n ∧ n ≤ b)

/-! The bytes of other records that a check reads. A later record has not been checked when an earlier one is, so its
byte is compared as it stands, in range or not. -/

def Image.stationZoneByte (img : Image) (st : StationNo) : Nat := byteAt (img.stations.getD st.1 []) 2
def Image.channelByte (img : Image) (pt : PointNo) : Nat := byteAt (img.points.getD pt.1 []) 2
def Image.refugeZoneByte (img : Image) (n : RefugeNo) : Nat := byteAt (img.refuges.getD n.1 []) 0

/-- The refuges whose zone byte is `z`. -/
def Image.refugesAt (img : Image) (z : Nat) : List RefugeNo :=
  (List.finRange 4).filter fun n => decide (img.refugeZoneByte n = z)

/-- The REFUGE_PANEL stations whose zone byte is `z`. -/
def Image.panelsAt (img : Image) (z : Nat) : List StationNo :=
  (List.finRange 62).filter fun st =>
    decide ((img.station st).kind = some .refugePanel) && decide (img.stationZoneByte st = z)

/-- The points of a station whose channel byte is `ch`. -/
def Image.pointsAt (img : Image) (st : StationNo) (ch : Nat) : List PointNo :=
  (List.finRange 96).filter fun p => decide ((img.point p).station = some st) && decide (img.channelByte p = ch)

/-- A station field: absent, or a line 1 or 2 and an address 1 to 31. -/
def stationFieldOk (r : Rec) (i : Nat) : Bool := be16 r i == 0xFFFF || (stationRef r i).isSome

/-- Ascending lists: strictly, and not descending. -/
def ascending : List Int → Bool
  | a :: b :: l => decide (a < b) && ascending (b :: l)
  | _ => true

def notDescending : List Nat → Bool
  | a :: b :: l => decide (a ≤ b) && notDescending (b :: l)
  | _ => true

/-! ### STATIONS -/

def stationOk (img : Image) (st : StationNo) (r : Rec) : Option Check :=
  let c := img.station st
  firstFail
    [spares r [3],
     require (byteAt r 0 == 0xFF || within 1 4 (byteAt r 0)) .range,
     require (within 0 2 (byteAt r 1)) .range,
     require (within 0 15 (byteAt r 2)) .range,
     match c.kind with
     | some .zoneReader =>
       match c.subtype with
       | .ordinary => none
       | .exitReader => require (img.zoneExit c.zone) .binding
       | .refuge => require (img.zoneRefuge c.zone && (img.refugesAt (byteAt r 2)).length == 1) .binding
     | some .refugePanel =>
       require (!(img.refugesAt (byteAt r 2)).isEmpty && (img.panelsAt (byteAt r 2)).length == 1) .binding
     | _ => none]

def pollListOk (img : Image) (ln : LineNo) (r : Rec) : Option Check :=
  let n := byteAt r 0
  let addrs := (List.range (min 31 n)).map fun i => byteAt r (1 + i)
  firstFail
    [spares r (offsets (1 + min 31 n) 32),
     require (within 0 31 n && addrs.all (within 1 31)) .range,
     require ((addrs.all fun a =>
       match stationOf (lineNumber ln) a with
       | some st => (img.station st).kind.isSome
       | none => false) && decide addrs.Nodup) .reference]

/-! ### POINTS, COMPENSATION, DWELL -/

/-- ORDER of the thresholds in use, from WARN to WITHDRAW. -/
def thresholdsOrdered (c : PointCfg) : Bool :=
  let ts : List Int := [c.warn, c.trip, c.withdraw].filterMap fun t => t.map Int.ofNat
  ascending (if c.kind.rising then ts else ts.map fun x => -x)

/-- CLEAR_BAND: the clear band of a level in use holds a value between 0 and full scale (R41). -/
def clearBandOk (c : PointCfg) (t : Option Nat) : Bool :=
  match t with
  | none => true
  | some x => if c.kind.rising then decide (c.hysteresis + 1 ≤ x) else decide (x + c.hysteresis + 1 ≤ c.kind.fullScale)

/-- R166: a point's record. ORDER and CLEAR_BAND are checked for a point that is not in use too (DESIGN CHOICE, log 21). -/
def pointOk (img : Image) (pt : PointNo) (r : Rec) : Option Check :=
  let c := img.point pt
  let full := c.kind.fullScale
  let opt := fun i => be16 r i == 0xFFFF || within 0 full (be16 r i)
  firstFail
    [spares r [23],
     require (stationFieldOk r 0 && within 0 3 (byteAt r 2) && within 0 4 (byteAt r 3) && within 0 15 (byteAt r 4)
       && within 0 1023 (be16 r 5) && within 1 16 (byteAt r 9) && opt 10 && opt 12 && opt 14
       && within 0 full (be16 r 16) && within 1 32 (byteAt r 18) && within 0 1 (byteAt r 19)
       && within 5 600 (be16 r 20)) .range,
     require (thresholdsOrdered c) .order,
     require (clearBandOk c c.warn && clearBandOk c c.trip && clearBandOk c c.withdraw) .clearBand,
     match c.station with
     | none => none
     | some st => require (decide ((img.station st).kind = some .sensorHead) &&
         (img.pointsAt st (byteAt r 2)).length == 1) .reference]

def compOk (img : Image) (k : GasKind) (r : Rec) : Option Check :=
  let t := img.comp k
  firstFail
    [spares r (offsets 88 96),
     require (t.cells.all fun c => match c with | some x => within 512 2047 x | none => true) .range,
     require (ascending t.ts && ascending (t.cs.map Int.ofNat)) .order]

def dwellOk (img : Image) (k : GasKind) (r : Rec) : Option Check :=
  let t := img.dwellTable k
  firstFail
    [spares r (offsets 12 16),
     require (t.all fun e => within 1 32 e.2) .range,
     require (notDescending (t.map Prod.fst) && (t.map Prod.fst).head? == some 0) .order]

/-! ### ZONES, ROAD, TRUCKS, REFUGES -/

def zoneOk (r : Rec) : Option Check := firstFail [spares r [1], require (within 0 3 (byteAt r 0)) .range]

def maskOk (r : Rec) : Option Check := spares r [2, 3]

def segmentOk (r : Rec) : Option Check :=
  firstFail
    [spares r [5],
     require (within 0 15 (byteAt r 0) && within 10 2000 (be16 r 1) && within 0 999 (be16 r 3)) .range]

def brakingOk (img : Image) : Option Check := require (notDescending (img.braking.map Prod.fst)) .order

def roadOk (r : Rec) : Option Check :=
  firstFail
    [spares r [3],
     require (within 0 50 (byteAt r 0) && within 0 200 (byteAt r 1) && within 0 50 (byteAt r 2)) .range]

def truckOk (r : Rec) : Option Check := firstFail [spares r [2, 3], require (be16 r 0 ≠ 0) .range]

/-- R122: a refuge in use has a zone flagged REFUGE that it shares with no other. -/
def refugeOk (img : Image) (n : RefugeNo) (r : Rec) : Option Check :=
  firstFail
    [spares r [2, 3],
     require ((byteAt r 0 == 0xFF || within 0 15 (byteAt r 0)) && within 1 255 (byteAt r 1)) .range,
     match (img.refuge n).zone with
     | none => none
     | some z => require (img.zoneRefuge z && (img.refugesAt (byteAt r 0)).length == 1) .binding]

/-! ### INTERLOCK, OUTPUTS, TIMING, FAULT_ENABLES -/

/-- The number of argument bytes a condition kind uses. -/
def conditionSize (k : Nat) : Nat :=
  match k with
  | 1 => 3
  | 2 => 4
  | 3 => 2
  | 4 => 2
  | 5 => 1
  | 6 => 1
  | _ => 0

/-- The number of argument bytes an action kind uses. -/
def actionSize (k : Nat) : Nat :=
  match k with
  | 1 => 1
  | 2 => 3
  | 3 => 1
  | 4 => 1
  | 5 => 1
  | _ => 0

/-- R139: a condition's arguments are in range. The value of a POINT_BEYOND condition has none but its 16 bits (DESIGN
CHOICE, log 21). -/
def conditionRange (r : Rec) : Bool :=
  match byteAt r 1 with
  | 1 => within 1 3 (byteAt r 4)
  | 2 => within 0 95 (byteAt r 2) && within 0 1 (byteAt r 5)
  | 3 => stationFieldOk r 2
  | 4 => within 0 3 (byteAt r 2) && within 0 3 (byteAt r 3)
  | 6 => within 1 2 (byteAt r 2)
  | _ => true

def actionRange (r : Rec) : Bool :=
  match byteAt r 8 with
  | 4 => within 1 2 (byteAt r 9)
  | 5 => within 0 15 (byteAt r 9)
  | _ => true

/-- R139: an enabled entry's condition names something that exists. -/
def conditionRefs (img : Image) (r : Rec) : Bool :=
  match byteAt r 1 with
  | 1 => be16 r 2 ≠ 0
  | 2 => match index? 96 (byteAt r 2) with | some pt => img.inUse pt | none => false
  | 3 => match stationRef r 2 with | some st => (img.station st).kind.isSome | none => false
  | _ => true

/-- R142: a level action's mask is not empty, and a SIGNAL action's outputs have the INTERLOCK driver. -/
def actionRefs (img : Image) (r : Rec) : Bool :=
  match byteAt r 8 with
  | 1 => byteAt r 9 ≠ 0 && (List.finRange 8).all fun k => !inMask (byteAt r 9) k.1 || (img.output k).onInterlock
  | 2 => be24 r 9 ≠ 0
  | 3 => byteAt r 9 ≠ 0
  | _ => true

def entryOk (img : Image) (r : Rec) : Option Check :=
  let enabled := byteAt r 0 == 1
  firstFail
    [spares r (offsets (2 + conditionSize (byteAt r 1)) 8 ++ offsets (9 + actionSize (byteAt r 8)) 16),
     require (within 0 1 (byteAt r 0) && within 0 7 (byteAt r 1) && within 0 6 (byteAt r 8)
       && (!enabled || (byteAt r 1 ≠ 0 && byteAt r 8 ≠ 0)) && conditionRange r && actionRange r) .range,
     require ((!enabled || conditionRefs img r) && actionRefs img r) .reference]

def outputOk (r : Rec) : Option Check :=
  firstFail [spares r [4, 5], require (within 0 15 (byteAt r 0) && within 0 2 (byteAt r 3)) .range]

def timingOk (r : Rec) : Option Check :=
  firstFail
    [spares r (offsets 19 24),
     require (within 1 8 (byteAt r 0) && within 0 2000 (be16 r 1) && within 500 10000 (be16 r 3)
       && within 60 3600 (be16 r 7) && within 10 600 (be16 r 9) && within 0 3600 (be16 r 11)
       && within 30 600 (be16 r 13) && within 2 60 (byteAt r 15) && within 2 60 (byteAt r 16)
       && within 1 255 (byteAt r 17) && within 0 1 (byteAt r 18)) .range]

def enablesOk (r : Rec) : Option Check := spares r [1, 2, 3]

/-! ### The whole image -/

def gasAt (i : Nat) : GasKind := gasOf i

/-- R166: the checks of one record. -/
def recordOk (img : Image) (sec idx : Nat) (r : Rec) : Option Check :=
  match sec with
  | 1 =>
    match index? 62 idx with
    | some st => stationOk img st r
    | none => pollListOk img (if idx = 62 then .one else .two) r
  | 2 => match index? 96 idx with | some pt => pointOk img pt r | none => none
  | 3 => compOk img (gasAt idx) r
  | 4 => dwellOk img (gasAt idx) r
  | 5 => if idx < 16 then zoneOk r else maskOk r
  | 6 => if idx < 24 then segmentOk r else if idx = 24 then brakingOk img else roadOk r
  | 7 => truckOk r
  | 8 => match index? 4 idx with | some n => refugeOk img n r | none => none
  | 9 => entryOk img r
  | 10 => outputOk r
  | 11 => timingOk r
  | _ => enablesOk r

/-- R166: the first failing record of a section. -/
def sectionFail (img : Image) (sec : Nat) : Option (Nat × Nat × Check) :=
  (img.sectionRecs sec).zipIdx.findSome? fun x => (recordOk img sec x.2 x.1).map fun c => (sec, x.2, c)

/-- R166: the section, index and check of the first failure of a shadow, if any. -/
def Image.firstFailure (img : Image) : Option (Nat × Nat × Check) :=
  (offsets 1 13).findSome? (sectionFail img)

/-- R120, R166: a shadow whose ROAD section differs while a segment has a holder, or that changes the identity of an
ACTIVE or LOST truck. -/
def State.roadInUse (s : State) (shadow : Image) : Bool :=
  (decide (shadow.road ≠ s.image.road) && s.segments.toList.any fun g => g.holder.isSome) ||
    (List.finRange 16).any fun t =>
      decide (s.trucks[t.1].state ≠ .unknown) && decide (shadow.identity t ≠ s.image.identity t)

end Sys2Proof.Machine
end

