-- ==== Sys2Proof/Machine/Ports.lean ====
section
/-!
DEFINITION. The Client Port Controllers (chapter 9): frames from bytes (R152), supervision, UP and DOWN (R153 to R155),
the generic checks and the serving of a request (R156), and what every command ends in.
-/
namespace Sys2Proof.Machine

/-! ### UP and DOWN (R153 to R155) -/

/-- R153: a port becomes UP. -/
def State.portUp (p : PortId) (s : State) : State :=
  let old := s.offerPorts
  let due := (s.port p).restartDue
  let s := s.updPort p fun r =>
    { r with state := .up, supervised := s.tick, requests := [], notices := [], nextSeq := 0, restartDue := false }
  let s := if due then s.notifyOn [p] (.restart s.supply.start) else s
  (s.notifyOn (PortId.all.filter fun q => q ≠ p) (.port p true)).offerPortsChanged old

/-- R165: an edit that the port holds is cancelled. -/
def State.cancelEditOf (p : PortId) (s : State) : State :=
  match s.settings.edit with
  | some e => if e.holder = p then { s with settings := { s.settings with edit := none } } else s
  | none => s

/-- R169: a CHECK_CLEAR of the port goes on without anyone to answer. -/
def State.orphanCheck (p : PortId) (s : State) : State :=
  match s.monitor.pass with
  | some (.checkClear (some (q, _))) => if q = p then s.setPass (some (.checkClear none)) else s
  | _ => s

/-- R154: a port goes DOWN. A response that still waited for the line is lost with the notices, since a DOWN port gets no
responses; one that has taken the line is out (log 8). The DONE of a FULL_RESET may be lost so, and its cold start then
goes on (DESIGN CHOICE, log 8). -/
def State.portDown (p : PortId) (s : State) : State :=
  let old := s.offerPorts
  let was := s.isolated
  let s := s.updPort p fun r => { r with state := .down, requests := [], notices := [], held := [] }
  let s := (s.notify (.port p false)).portCallsReleased p old
  let s := (s.cancelEditOf p).orphanCheck p
  if s.isolated && !was then s.raise .alert .isolated else s

/-- R153: the supervision timer of an UP port has expired; it does not run in HOLDUP (R161) or DORMANT. -/
def State.supervisionDue (s : State) (p : PortId) : Bool :=
  s.isUp p && s.powered && s.elapsed (s.port p).supervised s.image.supervision

/-! ### Frames (R152) -/

/-- R152: a valid frame joins the request queue, or is an overrun. -/
def PortRec.join (f : Frame) (r : PortRec) : PortRec :=
  if r.requests.length < 4 then { r with requests := r.requests ++ [f] }
  else { r with overruns := satInc max16 r.overruns }

/-- R152, R153, R161: a valid frame is taken. -/
def State.validFrame (p : PortId) (f : Frame) (s : State) : State :=
  let s := s.updPort p fun r => { r with valid := wrapInc 65536 r.valid }
  if s.supply.state = .holdup then
    if s.isUp p then s.updPort p (PortRec.join f) else s
  else
    let s := if s.isUp p then s else s.portUp p
    s.updPort p fun r => { r with supervised := s.tick }.join f

/-- What stands at the head of the received bytes. -/
inductive Head where
  | nothing
  | incomplete
  | bad
  | complete (f : Frame) (size : Nat)
deriving DecidableEq, Repr

/-- R152: the frame whose start marker is the first byte. -/
def headOf (a : List Byte) : Head :=
  if a.length < 3 then .incomplete
  else
    let len := be16 a 1
    if maxBody < len then .bad
    else if a.length < 7 + len then .incomplete
    else if crc16 ((a.drop 1).take (4 + len)) = BitVec.ofNat 16 (be16 a (5 + len)) then
      .complete { kind := a.getD 3 0, tag := a.getD 4 0, body := (a.drop 5).take len } (7 + len)
    else .bad

/-- R152: every byte before a start marker is ignored. -/
def toMarker (a : List Byte) : List Byte := a.dropWhile fun b => b ≠ marker

def State.setAssembly (p : PortId) (a : List Byte) (s : State) : State :=
  s.updPort p fun r => { r with assembly := a }

/-- R152: a bad frame is counted, and the search resumes at the byte after its start marker. -/
def State.badFrame (p : PortId) (s : State) : State :=
  s.updPort p fun r => { r with bad := satInc max16 r.bad, assembly := r.assembly.drop 1 }

/-- R152: take every frame that the received bytes complete; each turn uses up at least one byte, so a fuel above their
number is never spent. -/
def State.scan : Nat → PortId → State → State
  | 0, _, s => s
  | fuel + 1, p, s =>
    let a := toMarker (s.port p).assembly
    let s := s.setAssembly p a
    match a, headOf a with
    | [], _ => s
    | _, .complete f size => State.scan fuel p ((s.setAssembly p (a.drop size)).validFrame p f)
    | _, .bad => State.scan fuel p (s.badFrame p)
    | _, _ => s

/-- R152: bytes arrive. -/
def State.receive (p : PortId) (bytes : List Byte) (s : State) : State :=
  let a := (s.port p).assembly ++ bytes
  (s.setAssembly p a).scan (a.length + 1) p

/-- R152: a byte gap ends the incomplete frame as bad, and every incomplete frame that the resumed search finds among
its bytes with it (DEDUCED, log 9). -/
def State.gapOut : Nat → PortId → State → State
  | 0, _, s => s
  | fuel + 1, p, s =>
    if (s.port p).assembly.isEmpty then s
    else
      let s := s.badFrame p
      State.gapOut fuel p (s.scan ((s.port p).assembly.length + 1) p)

/-! ### Generic checks (R156) -/

/-- R156: the requests served in UNCONFIGURED. -/
def servedUnconfigured (f : Frame) : Bool :=
  match f.kind.toNat with
  | 0x01 => byteAt f.body 0 == 1
  | 0x03 | 0x10 | 0x11 | 0x12 | 0x13 | 0x15 => true
  | _ => false

/-- R156: the answer of the four generic checks, if one of them applies. -/
def State.genericAnswer (s : State) (f : Frame) : Option Result :=
  if !isRequestKind f.kind.toNat then some .malformed
  else if !bodySizeOk f then some .malformed
  else if s.supply.phase ≠ .running ∧ servedUnconfigured f = false then some .notReady
  else if s.supply.state = .holdup then some .busy
  else none

/-- R156: answer a request. -/
def State.answer (p : PortId) (f : Frame) (res : Result) (d : Detail) (s : State) : State :=
  s.respond p { kind := responseKind f.kind, tag := f.tag, result := res, detail := d }

/-- R156: a port whose CHECK_CLEAR waits for its pass takes no further request. -/
def State.waiting (s : State) (p : PortId) : Bool :=
  match s.monitor.pass with
  | some (.checkClear (some (q, _))) => decide (q = p)
  | _ => false

/-- A port takes requests from its queue: it is UP, nothing of its own is unanswered, the part is not DORMANT and no
FULL_RESET is under way. -/
def State.serving (s : State) (p : PortId) : Bool :=
  s.isUp p && !s.waiting p && decide (s.supply.state ≠ .dormant) && s.supply.resetPending.isNone

/-- The request at the head of a port's queue. -/
def State.front (s : State) (p : PortId) : Option Frame := if s.serving p then (s.port p).requests.head? else none

/-- R156: a request leaves the queue. -/
def State.popRequest (p : PortId) (s : State) : State := s.updPort p fun r => { r with requests := r.requests.tail }

/-- R156: a frame that spells no request of the table is answered when it reaches the head of its queue; a queue holds
at most 4 (log 6). -/
def State.answerOthers : Nat → PortId → State → State
  | 0, _, s => s
  | fuel + 1, p, s =>
    match s.front p with
    | some f =>
      if (rowOf f).isNone then
        State.answerOthers fuel p
          ((s.popRequest p).answer p f ((s.genericAnswer f).getD .malformed) .none)
      else s
    | none => s

/-- Every port answers what it may. -/
def State.answerPorts (s : State) : State := forEach PortId.all (State.answerOthers 4) s

/-- What every command that changes anything ends in: the outputs re-judged, and the frames that spell no request of the
table answered. -/
def State.finish (s : State) : State := s.settle.answerPorts

/-- R156: the request at the head of the port's queue, when it is of the given row. -/
def State.headRow (s : State) (p : PortId) (row : ReqRow) : Option Frame :=
  match s.front p with
  | some f => if rowOf f = some row then some f else none
  | none => none

/-- R156: serve the request at the head of a port's queue when it is of the given row: the generic checks, then its
owning block. A row that the head does not spell changes nothing. -/
def State.serve (p : PortId) (row : ReqRow) (act : Frame → State → State) (s : State) :
    Host.Outcome State Fault Refusal :=
  match s.headRow p row with
  | none => .next s
  | some f =>
    match s.genericAnswer f with
    | some res => .next (State.finish ((s.popRequest p).answer p f res .none))
    | none => .next (State.finish (act f (s.popRequest p)))

end Sys2Proof.Machine
end

