-- ==== Sys2Proof/Machine/Commit.lean ====
section
/-!
DEFINITION. A commit that passes, handed to every block (R167): the stations (R12, R13), the points (R34), the level
states (R47 to R49), the road and trucks (R110, R120), the refuges (R135), supervision (R153), and last the rebuild of
the Interlock Table (R145), which the start evaluation (R146) shares.
-/
namespace Sys2Proof.Machine

/-! ### Stations (R12, R13) -/

/-- R18: a station record with the cold values. -/
def StationRec.cold (k : StationKind) (c : StationCfg) : StationRec :=
  { kind := k, counted := k, subtype := c.subtype, zone := c.zone, state := .unpolled, misses := 0, replies := 0, bad := 0
    lastReply := none, lamps := [] }

/-- R13: a station's record reads its kind, subtype and zone from the new image; a newly named station gets a record, and
one no longer named keeps its own until the next snapshot. -/
def stationTakes (img : Image) (st : StationNo) (r : Option StationRec) : Option StationRec :=
  let c := img.station st
  match c.kind, r with
  | some k, some x => some { x with kind := k, subtype := c.subtype, zone := c.zone }
  | some k, none => some (StationRec.cold k c)
  | none, r => r

/-- R13: a record takes the miss_limit now in force. -/
def State.takeMissLimit (st : StationNo) (s : State) : State :=
  match s.stations[st.1] with
  | none => s
  | some r =>
    let limit := s.image.missLimit
    if r.state = .lost then s.updStation st fun x => { x with misses := limit }
    else if r.state = .missed ∧ limit ≤ r.misses then s.moveStation .later st .lost fun x => { x with misses := limit }
    else s.updStation st fun x => { x with misses := min x.misses limit }

/-- R12, R13: a commit reaches the station records. The battery mask is judged before the new miss_limit is applied, so a
MISSED station that the same commit skips never becomes LOST by it (DESIGN CHOICE, log 33). -/
def State.commitStations (s : State) : State :=
  let s := { s with stations := updAll s.stations (stationTakes s.image) }
  forEach (List.finRange 62) State.takeMissLimit (s.judgeSkips .later)

/-! ### Points and level states (R34, R47 to R49) -/

/-- R34: the flags of a point brought into agreement with its station's state. A point that is STALE already keeps the
moment it became so; where the same commit has just made its new station LOST by a lowered miss_limit, the moment is the
commit's, as R32 sets it (DESIGN CHOICE, log 38). -/
def PointRt.agree (now : Secs) (tick : Tick) (st : Option StationState) (p : PointRt) : PointRt :=
  let p := if st = some .lost then (if p.flags.stale then p else p.becomeStale now tick) else p.endStale
  if st = some .skipped then p.becomeSuspended else p.endSuspended

/-- The state of a point's station. -/
def State.stationState (s : State) (st : Option StationNo) : Option StationState :=
  st.bind fun x => s.stations[x.1].map StationRec.state

/-- R34: a commit reaches a point's runtime part. -/
def State.commitPoint (old : PointCfg) (pt : PointNo) (s : State) : State :=
  let cfg := s.image.point pt
  let agree := PointRt.agree s.now s.tick (s.stationState cfg.station)
  if cfg.station.isNone then
    if old.station.isNone then s
    else (s.updPoint pt fun _ => PointRt.cold).evalWhere (Condition.watchesPoint pt)
  else if old.station.isNone then s.updPoint pt fun _ => agree .cold
  else if old.station ≠ cfg.station ∨ old.channel ≠ cfg.channel ∨ old.kind ≠ cfg.kind then
    s.updPoint pt fun p => agree { p with reseed := true, rejected := 0 }
  else s

/-- R47: a level state loses its running count. -/
def LevelState.uncount : LevelState → LevelState
  | .pending _ _ => .idle
  | .clearing _ => .qualified
  | l => l

/-- R40, R47: one level of a point at a commit. -/
def commitLevel (changed : Bool) (threshold : Option Nat) (l : LevelState) : LevelState :=
  if threshold.isNone then .idle else if changed then l.uncount else l

/-- R47: what in a point's settings resets the counts of its level states. -/
def levelsChanged (old new : PointCfg) (oldDwell newDwell : List (Nat × Nat)) : Bool :=
  decide (old.warn ≠ new.warn) || decide (old.trip ≠ new.trip) || decide (old.withdraw ≠ new.withdraw)
    || decide (old.hysteresis ≠ new.hysteresis) || decide (old.kind ≠ new.kind)
    || decide (old.clearDwell ≠ new.clearDwell) || decide (oldDwell ≠ newDwell)

/-- R47, R48, R49: a commit reaches a point's level states and its stale TRIP flag. -/
def State.commitLevels (old : Image) (pt : PointNo) (s : State) : State :=
  let was := old.point pt
  let cfg := s.image.point pt
  let changed := levelsChanged was cfg (old.dwellTable cfg.kind) (s.image.dwellTable cfg.kind)
  let s := s.updPoint pt fun p => { p with
    levels := { warn := commitLevel changed cfg.warn p.levels.warn, trip := commitLevel changed cfg.trip p.levels.trip
                withdraw := commitLevel changed cfg.withdraw p.levels.withdraw }
    staleTrip := p.staleTrip && cfg.failSafe && cfg.station.isSome }
  if (was.failSafe = false ∨ was.staleLimit ≠ cfg.staleLimit) ∧ s.staleDue pt = true then
    s.updPoint pt fun p => { p with staleTrip := true }
  else s

/-- R34, R47, R50: a commit reaches the points, and then every zone level is recomputed. -/
def State.commitPoints (old : Image) (s : State) : State :=
  let s := forEach (List.finRange 96) (fun pt => State.commitPoint (old.point pt) pt) s
  (forEach (List.finRange 96) (State.commitLevels old) s).recomputeZones

/-! ### Road and trucks (R110, R120) -/

/-- R120: GAS is set afresh from the latch of each segment's zone. -/
def State.freshGas (s : State) : State :=
  { s with segments := updAll s.segments fun k g => { g with gas := s.zones[(s.image.segment k).zone.1].latch } }

/-- R110, R120: a commit reaches the truck records; a number whose identity is made absent loses its record. -/
def State.commitTrucks (old : Image) (s : State) : State :=
  let s := { s with trucks := updAll s.trucks fun t r => if (s.image.identity t).isNone then TruckRec.cold else r }
  if old.truckLost = s.image.truckLost then s
  else forEach (List.finRange 16) (fun t s => if s.truckDue t then s.watchTrucks (State.loseTruck t) else s) s

/-! ### Refuges (R135) -/

/-- R135: a refuge whose panel is now another station, or absent, starts afresh. -/
def State.commitRefuge (old : Image) (n : RefugeNo) (s : State) : State :=
  if old.panel n = s.image.panel n then s
  else ((s.updRefuge n fun r => { r with airLow := false, batteryLow := false }).judgeRefuges).setDoor n .unknown

/-- R135: a commit reaches the refuges in the order of their numbers, which decides which DOOR_IS entry is evaluated first
(DESIGN CHOICE, log 5). -/
def State.commitRefuges (old : Image) (s : State) : State :=
  (forEach (List.finRange 4) (State.commitRefuge old) s).judgeRefuges

/-! ### Supervision (R153) -/

/-- R153: a change of the supervision interval re-times every running timer. Several ports that expire by it go DOWN in
the order A, B, L (DESIGN CHOICE, log 5). -/
def State.commitSupervision (old : Image) (s : State) : State :=
  if old.supervision = s.image.supervision then s
  else forEach PortId.all (fun p s => if s.supervisionDue p then s.portDown p else s) s

/-! ### The Interlock Table (R145, R146) -/

/-- The entries whose settings part differs between two images. -/
def entryChanged (old new : Image) (n : EntryNo) : Bool := decide (old.entry n ≠ new.entry n)

/-- R138, R146: whether an evaluation finds an entry ACTIVE. -/
def State.foundActive (s : State) (n : EntryNo) : Bool :=
  (s.image.entry n).enabled && s.conditionHolds (s.image.entry n).condition

/-- Entry `n`'s hold on target `k` after the marked entries have been evaluated. -/
def State.newHold (s : State) (mask : Action → Nat) (k : Nat) (n : EntryNo) : Bool :=
  s.foundActive n && inMask (mask (s.image.entry n).action) k

/-- R145 steps 1 to 3, R146: the marked entries are evaluated, and their level actions are withdrawn and applied as one
change, each target judged on its final holding. No entry fires. -/
def State.putEntries (marked : EntryNo → Bool) (s : State) : State :=
  let hold := fun (mask : Action → Nat) (k : Nat) (v : Vector Bool 24) =>
    updAll v fun n b => if marked n then s.newHold mask k n else b
  let s' := { s with
    entries := updAll s.entries fun n e =>
      if marked n then { e with active := s.foundActive n, rebuilding := false } else e
    signals := updAll s.signals fun k o => { o with holders := hold Action.signalMask k.1 o.holders }
    trips := updAll s.trips fun k o => { o with holders := hold Action.tripMask k.1 o.holders } }
  (s'.addReasons (fun k g => { g with interlock := hold Action.blockMask k.1 g.interlock }) fun _ => false).evalTrips

/-- R145: a commit has changed these entries; none is evaluated before its rebuild, also at a change of what it watches
that the commit itself makes (DESIGN CHOICE, log 42). -/
def State.markEntries (old : Image) (s : State) : State :=
  { s with entries := updAll s.entries fun n e =>
      if entryChanged old s.image n then { e with rebuilding := true } else e }

/-- R145 step 4: a rebuilt entry that is ACTIVE fires when its condition or its action changed. -/
def firesAtRebuild (old new : Image) (n : EntryNo) : Bool :=
  decide ((old.entry n).condition ≠ (new.entry n).condition) || decide ((old.entry n).action ≠ (new.entry n).action)

/-- R145: the rebuild. Steps 1 to 3 are taken for every changed entry before any fires, and then the firings are taken in
the order of the numbers (DESIGN CHOICE, log 42). -/
def State.rebuild (old : Image) (s : State) : State :=
  let s := s.putEntries (entryChanged old s.image)
  let due := (List.finRange 24).filter fun n => s.entries[n.1].active && firesAtRebuild old s.image n
  forEach due (State.fireWith State.raise) s

/-! ### The commit (R167, R173) -/

/-- The phase becomes RUNNING: the signal patterns and the integrity periods run from here (R148, R170). -/
def State.enterRunning (s : State) : State :=
  { s with
    supply := { s.supply with phase := .running, runningFrom := s.tick }
    monitor := { s.monitor with periodFrom := s.tick, period := s.image.integrityPeriod } }

/-- R78, R71, R72: a commit reaches the roster. -/
def State.commitRoster (s : State) : State := s.ageRoster.settleMuster s.musterFigures

/-- R167: the new image is handed to the owning blocks; `old` is the image before. A hold that an unchanged entry lets go
on the way, at an evaluation of R140, is let go when that evaluation is made, ahead of the rebuild, and an output judged
before the rebuild is judged by its new zone mask and its old holders (DESIGN CHOICE, log 42). -/
def State.handImage (old : Image) (s : State) : State :=
  let s := (s.markEntries old).commitStations.freshGas
  let s := (s.commitPoints old).commitRoster.escalateAll
  let s := (s.commitTrucks old).commitRefuges old
  (s.commitSupervision old).rebuild old

/-- R167: a shadow that passed replaces the active image, and a first commit brings the phase to RUNNING, before the
owning blocks take the image, so that what they raise is raised (DESIGN CHOICE, log 46). -/
def State.commitImage (p : PortId) (shadow : Image) (s : State) : State :=
  let old := s.image
  let first := decide (s.supply.phase = .unconfigured)
  let s := State.takeImage shadow { s with settings := { s.settings with edit := none } }
  let s := if first then s.enterRunning else s
  let s := (s.notify (.settingsCommitted p shadow.crc)).handImage old
  if first then (s.beginPass .one).beginPass .two else s

end Sys2Proof.Machine
end

