-- ==== Sys2Proof/Machine/Supply.lean ====
section
/-!
DEFINITION. The Supply and Hold-up Unit (chapter 11): the supply states (R171), the hold-up save (R172), the starts
(R173) and what each block makes of a restored store (R18, R62, R79, R121, R136, R146).
-/
namespace Sys2Proof.Machine

/-! ### Supply states (R171) -/

/-- R171: the supply state the two inputs give at the end of SELF_TEST or RESTORE. -/
def supplyOf (mainsOk battLow : Bool) : SupplyState :=
  if mainsOk then .mains else if battLow then .holdup else .battery

/-- R171: the supply state changes, with its SUPPLY notice. -/
def State.setSupply (new : SupplyState) (s : State) : State :=
  State.notify (.supply s.supply.state new) { s with supply := { s.supply with state := new } }

/-- R171: the inputs are acted on in every start-up phase but SELF_TEST and RESTORE. -/
def State.supplyActs (s : State) : Bool := s.running || decide (s.supply.phase = .unconfigured)

/-- R4: a line in GAP becomes STOPPED at once. -/
def State.stopIfGap (ln : LineNo) (s : State) : State := if (s.line ln).state = .gap then s.stopLine ln else s

def State.setSave (g : SaveStage) (s : State) : State := { s with supply := { s.supply with save := g } }

/-- R171: in HOLDUP without a configuration there is nothing to keep and the unit goes DORMANT, which it does at once
(DESIGN CHOICE, log 10); while RUNNING the save begins (R172). -/
def State.beginSave (s : State) : State :=
  if s.running then s.setSave .quiet else { s with supply := { s.supply with state := .dormant } }

/-- R171: the supply state becomes HOLDUP. Where a calibration ends on both lines, Line 1's CAL_FAILED is sent first
(DESIGN CHOICE, log 5). -/
def State.enterHoldup (s : State) : State :=
  let s := ((s.setSupply .holdup).stopIfGap .one).stopIfGap .two
  let s := (s.failCal .one .holdup).failCal .two .holdup
  let s := { s with settings := { s.settings with edit := none } }
  s.abandonCheck.evalTrips.beginSave

/-- R12, R171: the supply state becomes BATTERY or MAINS; the stations are judged at that moment, and the zones once. -/
def State.changeSupply (new : SupplyState) (s : State) : State :=
  ((s.setSupply new).judgeSkips .later).recomputeZones

/-! ### The save (R172) -/

/-- R172: the retained items as they stand. -/
def State.saved (s : State) : Saved :=
  { image := s.settings.active
    reference := s.settings.reference
    records := s.roster.records
    alarms := s.alarms
    latches := s.zones.map fun z => (z.latch, z.latchedAt)
    forced := s.trips.map TripOut.forced
    withdrawal := s.withdrawal
    holders := s.segments.map Segment.holder
    manual := s.segments.map Segment.manual
    trucks := s.trucks
    refuges := s.refuges.map fun r => (r.airLow, r.batteryLow, r.doorFaults)
    firings := s.entries.map fun e => (e.fired, e.lastFired)
    seconds := s.clock.seconds }

/-- R172: the save waits until both lines are STOPPED. -/
def State.quiet (s : State) : Bool :=
  decide (s.supply.state = .holdup) && decide (s.supply.save = .quiet) && decide ((s.line .one).state = .stopped)
    && decide ((s.line .two).state = .stopped)

/-- R172: stage 2, and the clearing of the mark that begins stage 3; the Section Clock stops (R158). -/
def State.copyStore (s : State) : State :=
  { s with
    supply := { s.supply with
      save := .writing s.saved s.calls.calls.length, store := { s.supply.store with mark := false } }
    clock := { s.clock with stopped := true } }

/-- R172: the check value over a written store. -/
def storeCheck (d : Saved) (lost : Nat) : BitVec 32 := crc32 (Config.storeBytes d lost)

/-- R172: the store as stage 3 leaves it. -/
def Store.written (d : Saved) (lost : Nat) : Store :=
  { data := some d, callsLost := lost, check := storeCheck d lost, mark := true }

/-! ### Starts (R173) -/

/-- R173: a start begins in SELF_TEST. Every table is empty; the store, the tick, the two inputs and the waiting
commands stay. A start that finds the completion mark is WARM, and drops a FULL_RESET that a HOLDUP has overtaken before
its cold start (DESIGN CHOICE, log 44). -/
def State.beginStart (cause : StartCause) (s : State) : State :=
  let store := s.supply.store
  { State.reset with
    tick := s.tick
    clock := { Clock.cold with from_ := s.tick }
    supply := { Supply.cold with
      store := store
      start := { kind := if store.mark then .warm else .cold, cause := cause, tableTestFail := false
                 restoreFault := false, callsLost := if store.mark then store.callsLost else 0 }
      mainsOk := s.supply.mainsOk
      battLow := s.supply.battLow }
    pending := s.pending }

/-- R173: the cause of a start that MAINS_OK begins out of DORMANT. -/
def State.wakeCause (s : State) : StartCause := if s.supply.store.mark then .holdupRestart else .powerOn

/-- R173, R171: a COLD start enters UNCONFIGURED with the Section Clock at 0 and CLOCK_UNSET set, its supply state set
from the inputs. The seconds that R158 has counted since the start began end there (DEDUCED, log 32). -/
def State.enterUnconfigured (s : State) : State :=
  let s := { s with
    clock := { s.clock with seconds := 0, unset := true }
    supply := { s.supply with phase := .unconfigured, state := supplyOf s.supply.mainsOk s.supply.battLow } }
  if s.supply.state = .holdup then s.beginSave else s

/-- R173: the end of SELF_TEST. -/
def State.endSelfTest (failed : Bool) (s : State) : State :=
  let s := { s with supply := { s.supply with start := { s.supply.start with tableTestFail := failed } } }
  if s.supply.start.kind = .warm then { s with supply := { s.supply with phase := .restore } }
  else s.enterUnconfigured

/-- R173: the stored tables, when the check value over the store matches. -/
def Store.sound (st : Store) : Option Saved :=
  match st.data with
  | some d => if st.check = storeCheck d st.callsLost then some d else none
  | none => none

/-- R173: a store that fails its check: RESTORE_FAULT, and the start goes on as COLD (log 11). -/
def State.failRestore (s : State) : State :=
  State.enterUnconfigured { s with supply := { s.supply with
    store := { s.supply.store with mark := false }
    start := { s.supply.start with kind := .cold, restoreFault := true, callsLost := 0 } } }

/-- R62: an alarm record reconciled with a zone at NONE. -/
def reconcileAlarm (r : AlarmRec) : Option AlarmRec :=
  match r.state with
  | .activeAcked _ => none
  | .activeUnack => some { r with state := .clearedUnack }
  | .clearedUnack => some r

/-- R121: a truck record as restored. -/
def restoreTruck (r : TruckRec) : TruckRec :=
  let r := { r with overspeed := false, clamped := false, posClamped := false, demand := none, cap := 0 }
  if r.state = .unknown then r else { r with state := .lost }

/-- R62, R79, R121, R136, R146, R158, R170: the retained items come back. The seconds since the start began are counted
on (R158; DEDUCED, log 20). Each record's unseen counts a full second from here, the part of a second that had run
before HOLDUP being lost (DESIGN CHOICE, log 36). -/
def State.putBack (d : Saved) (s : State) : State :=
  let now := (d.seconds + s.clock.seconds) % 4294967296
  let img := d.image.getD Image.default
  { s with
    clock := { s.clock with seconds := now }
    settings := { active := d.image, reference := d.reference, edit := none }
    stations := updAll s.stations fun st _ => (img.station st).kind.map fun k => StationRec.cold k (img.station st)
    roster := { s.roster with records := d.records.map fun r => { r with openCall := none, unseenFrom := s.tick } }
    alarms := d.alarms.filterMap reconcileAlarm
    zones := updAll s.zones fun z _ => { level := .none, latch := d.latches[z.1].1, latchedAt := d.latches[z.1].2 }
    trips := updAll s.trips fun k o => { o with forced := d.forced[k.1] }
    withdrawal := d.withdrawal
    segments := updAll s.segments fun k _ =>
      { holder := d.holders[k.1], manual := d.manual[k.1], gas := d.latches[(img.segment k).zone.1].1
        interlock := Vector.replicate 24 false, unverified := d.holders[k.1].isSome }
    trucks := updAll s.trucks fun t _ => restoreTruck d.trucks[t.1]
    refuges := updAll s.refuges fun n r => { r with
      airLow := d.refuges[n.1].1, batteryLow := d.refuges[n.1].2.1, doorFaults := d.refuges[n.1].2.2
      doorSince := some now }
    entries := updAll s.entries fun n e => { e with fired := d.firings[n.1].1, lastFired := d.firings[n.1].2 }
    supply := { s.supply with store := { s.supply.store with mark := false } } }

/-- R121: each LOST truck's demand is made pending, in truck number order. -/
def State.pendDemands (s : State) : State :=
  forEach (List.finRange 16) (fun t s =>
    if s.trucks[t.1].state = .lost then (s.recompute t).joinDelivery t else s) s

/-- R136, R76: the restored withdrawal state is put into effect as if entered from NORMAL. -/
def State.putWithdrawal (s : State) : State :=
  let s := s.rosterTakesState .normal
  let s := { s with roster := { s.roster with unaccounted := s.unaccountedNow } }
  if s.withdrawal.state = .withdraw then s.withdrawCut else s

/-- R1, R4: at RUNNING a line begins its first pass, or becomes STOPPED in HOLDUP. -/
def State.startLine (ln : LineNo) (s : State) : State :=
  if s.supply.state = .holdup then s.stopLine ln else s.beginPass ln

/-- R170, R171, R173: the end of RESTORE: the restored tables, the restore pass, and the supply state from the inputs. -/
def State.restoreTables (d : Saved) (s : State) : State :=
  let t := (s.putBack d).restorePass
  { t with supply := { t.supply with state := supplyOf t.supply.mainsOk t.supply.battLow } }

/-- R146, R172, R173: RUNNING after a restore: each block puts its tables into effect, the Interlock Table makes its
start evaluation, and the lines begin, or stop for a save that begins at once. -/
def State.runRestored (s : State) : State :=
  let t := s.enterRunning.pendDemands.putWithdrawal.judgeRefuges.putEntries fun _ => true
  let t := if t.supply.state = .holdup then t.setSave .quiet else t
  (t.startLine .one).startLine .two

/-- R173: a WARM start restores its tables and enters RUNNING. -/
def State.warmRestart (d : Saved) (s : State) : State := (s.restoreTables d).runRestored

/-- R173: the check over the store ends. -/
def State.endRestore (s : State) : State :=
  match s.supply.store.sound with
  | some d => s.warmRestart d
  | none => s.failRestore

/-- R171, R172: the completion mark is written, and MAINS_OK decides what follows, also while a FULL_RESET is under way
(DESIGN CHOICE, log 44). -/
def State.endSave (d : Saved) (lost : Nat) (s : State) : State :=
  let s := { s with supply := { s.supply with store := Store.written d lost, save := .none } }
  if s.supply.mainsOk then s.beginStart .holdupRestart else { s with supply := { s.supply with state := .dormant } }

end Sys2Proof.Machine
end

