-- ==== Sys2Proof/Machine/Requests.lean ====
section
/-!
DEFINITION. What each request of the client ports does once it has passed the generic checks (R156): the records that
READ returns (R157), and the answers and effects of the owning blocks. Each takes the port and the request frame.
-/
namespace Sys2Proof.Machine

/-! ### READ (R157) -/

/-- The outcome of a READ, or of another request that only answers. -/
abbrev Answer := Result × Detail

def found (r : Record) : Answer := (.done, .record r)
def missing : Answer := (.notFound, .none)
def malformed : Answer := (.malformed, .none)

/-- A record at an index of a table of `n`: MALFORMED outside the table. -/
def readAt (n k : Nat) (f : Fin n → Answer) : Answer :=
  match index? n k with
  | some i => f i
  | none => malformed

/-- A record at a position of a list: NOT_FOUND at or beyond its end. -/
def readPos {α : Type} (l : List α) (k : Nat) (f : α → Record) : Answer :=
  match l[k]? with
  | some x => found (f x)
  | none => missing

/-- A table without an index, whose index field is 0 (12.1). -/
def readOne (k : Nat) (r : Record) : Answer := if k = 0 then found r else malformed

def State.statusView (s : State) : StatusView :=
  { phase := s.supply.phase, supply := s.supply.state, withdrawal := s.withdrawal.state, seconds := s.now
    clockUnset := s.clock.unset, faultLine := s.faultLine, portA := (s.port .a).state, portB := (s.port .b).state
    portL := (s.port .l).state, passes := s.monitor.passes, published := s.monitor.published }

/-- The port record of chapter 9. -/
def PortRec.view (r : PortRec) : PortView :=
  { state := r.state, supervision := if r.state = .up then some r.supervised else none, requests := r.requests
    notices := r.notices, nextSeq := r.nextSeq, valid := r.valid, bad := r.bad, overruns := r.overruns
    lost := r.lost }

def lineAt (k : Nat) : Option LineNo :=
  match k with
  | 1 => some .one
  | 2 => some .two
  | _ => none

def portAt (k : Nat) : Option PortId :=
  match k with
  | 0 => some .a
  | 1 => some .b
  | 2 => some .l
  | _ => none

def State.readLine (s : State) (k : Nat) : Answer :=
  match lineAt k with
  | some ln =>
    let l := s.line ln
    found (.line l.state l.pollList l.cursor l.gapStart l.slot l.unmapped)
  | none => malformed

/-- R157: a station's record. A station that the STATIONS section does not name is NOT_FOUND, also one whose record R13
keeps until the next snapshot. -/
def State.readStation (s : State) (line addr : Nat) : Answer :=
  match stationOf line addr with
  | some st =>
    match (s.image.station st).kind, s.stations[st.1] with
    | some _, some r => found (.station st r)
    | _, _ => missing
  | none => malformed

def State.readPoint (s : State) (k : Nat) : Answer :=
  readAt 96 k fun pt =>
    if s.image.inUse pt then found (.point (s.image.point pt) s.points[pt.1] s.points[pt.1].levels.level) else missing

def State.readZone (s : State) (k : Nat) : Answer :=
  readAt 16 k fun z =>
    found (.zone s.zones[z.1] ((List.finRange 96).countP (s.contributes z)) ((List.finRange 96).filter (s.staleSource z)))

def State.readTrip (s : State) (k : Nat) : Answer :=
  readAt 8 k fun o =>
    let t := s.trips[o.1]
    found (.tripOutput t.isOpen t.forced t.faultHold (s.tripConds o))

def State.readMuster (s : State) : Record :=
  .muster s.musterFigures s.roster.records.length s.roster.evictions s.roster.ignored s.roster.full

def State.readSegment (s : State) (k : Nat) : Answer :=
  readAt 24 k fun g => found (.segment s.segments[g.1] s.segments[g.1].blocked)

def State.readTruck (s : State) (k : Nat) : Answer :=
  readAt 16 k fun t => if (s.image.identity t).isSome then found (.truck s.trucks[t.1] s.road) else missing

def State.readRefuge (s : State) (k : Nat) : Answer :=
  readAt 4 k fun n =>
    found (.refuge (s.image.refuge n) (s.image.panel n) s.refuges[n.1] (s.stationState (s.image.panel n)))

def State.readWithdrawal (s : State) : Record :=
  .withdrawal s.withdrawal s.isolated s.roster.unaccounted (s.zonesAt .trip) (s.zonesAt .withdraw) s.sealedRefuges

def State.readEntry (s : State) (k : Nat) : Answer :=
  readAt 24 k fun n => found (.interlock (s.image.entry n) s.entries[n.1])

def State.readSignal (s : State) (k : Nat) : Answer :=
  readAt 8 k fun o =>
    let d := s.drivers o
    found (.signalOutput s.signals[o.1].on d.1 d.2.1 d.2.2.1 d.2.2.2)

def State.readFault (s : State) : Record :=
  .fault s.faultLine (FaultCause.all.filter s.faultCause) (FaultCause.all.filter s.image.faultEnabled)

def State.readPort (s : State) (k : Nat) : Answer :=
  match portAt k with
  | some p => found (.port (s.port p).view)
  | none => malformed

def State.readQueue (s : State) : Record :=
  .callQueue s.calls.calls.length s.calls.nextNumber s.calls.dropped s.calls.refused

/-- R157: READ of a table, numbered from 1 in the order of R157, at an index. A table without an index takes 0 alone
(DESIGN CHOICE, log 15). -/
def State.readTable (s : State) (table k hi lo : Nat) : Answer :=
  match table with
  | 1 => readOne k (.status s.statusView)
  | 2 => s.readLine k
  | 3 => s.readStation hi lo
  | 4 => s.readPoint k
  | 5 => s.readZone k
  | 6 => readPos s.alarms k .alarm
  | 7 => s.readTrip k
  | 8 => readPos s.roster.records k .roster
  | 9 => readOne k s.readMuster
  | 10 => readPos s.calls.calls k .call
  | 11 => s.readSegment k
  | 12 => s.readTruck k
  | 13 => s.readRefuge k
  | 14 => readOne k s.readWithdrawal
  | 15 => s.readEntry k
  | 16 => s.readSignal k
  | 17 => readOne k s.readFault
  | 18 => s.readPort k
  | 19 => readOne k s.readQueue
  | _ => malformed

/-- Answer a request and change nothing. -/
def State.reply (p : PortId) (f : Frame) (a : Answer) (s : State) : State := s.answer p f a.1 a.2

/-- R156: the response goes before the notices the request causes. -/
def State.doneThen (p : PortId) (f : Frame) (act : State → State) (s : State) : State :=
  act (s.answer p f .done .none)

def State.doRead (p : PortId) (f : Frame) (s : State) : State :=
  s.reply p f (s.readTable (byteAt f.body 0) (be16 f.body 1) (byteAt f.body 1) (byteAt f.body 2))

/-- R63. -/
def State.doFindTag (p : PortId) (f : Frame) (s : State) : State :=
  let t := tagAt f.body 0
  s.reply p f
    (if !validTag t then malformed
     else
      match s.miner t with
      | some r => (.done, .found r (s.roster.records.findIdx fun x => decide (x.tag = t)))
      | none => missing)

/-- R158. -/
def State.doSetTime (p : PortId) (f : Frame) (s : State) : State :=
  s.doneThen p f fun s => { s with clock := { s.clock with seconds := be32 f.body 0, unset := false } }

/-- R153. -/
def State.doKeepalive (p : PortId) (f : Frame) (s : State) : State := s.answer p f .done .none

/-! ### Zones and trips (R54, R56 to R58) -/

/-- R54. -/
def State.doAckAlarm (p : PortId) (f : Frame) (s : State) : State :=
  match index? 16 (byteAt f.body 0), gradeOf (byteAt f.body 1) with
  | some z, some g =>
    match s.alarm z g with
    | none => s.answer p f .notFound .none
    | some r =>
      match r.state with
      | .activeUnack =>
        s.doneThen p f fun s => (s.updAlarm z g fun r => { r with state := .activeAcked p }).notify
          (.alarm z g (some (.activeAcked p)) none none)
      | .clearedUnack => s.doneThen p f fun s => (s.dropAlarm z g).notify (.alarm z g none none none)
      | .activeAcked q => s.answer p f .already (.port q)
  | _, _ => s.answer p f .malformed .none

/-- R56. -/
def State.doResetZone (p : PortId) (f : Frame) (s : State) : State :=
  match index? 16 (byteAt f.body 1) with
  | none => s.answer p f .malformed .none
  | some z =>
    if !s.zones[z.1].latch then s.answer p f .already .none
    else if s.zones[z.1].level.isTrip then s.answer p f (.refused .causePersists) .none
    else s.doneThen p f (State.clearLatch z)

/-- R57: the zones whose latch a RESET_TRIP(ALL) clears, and those whose latch it keeps. -/
def State.clearable (s : State) : List Zone :=
  (List.finRange 16).filter fun z => s.zones[z.1].latch && !s.zones[z.1].level.isTrip

def State.keptLatches (s : State) : List Zone :=
  (List.finRange 16).filter fun z => s.zones[z.1].latch && s.zones[z.1].level.isTrip

/-- R57. The number byte of 12.1 names nothing with the selector ALL, and is ignored whatever it holds (DESIGN CHOICE,
log 35). -/
def State.doResetAll (p : PortId) (f : Frame) (s : State) : State :=
  let kept := s.keptLatches
  let s' := if kept.isEmpty then s.answer p f .done .none else s.answer p f .partly (.zones kept)
  forEach s.clearable State.clearLatch s'

/-- R58. -/
def State.doForce (p : PortId) (f : Frame) (k : Nat) (on : Bool) (s : State) : State :=
  match index? 8 k with
  | none => s.answer p f .malformed .none
  | some o =>
    if s.trips[o.1].forced = on then s.answer p f .already .none
    else s.doneThen p f (State.setForced o on)

/-! ### Calls (R90 to R92) -/

/-- 5.4: the call a request names: MALFORMED for 0, NOT_FOUND when no call holds the number. -/
def State.withCall (p : PortId) (f : Frame) (act : Call → State → State) (s : State) : State :=
  let n := byteAt f.body 0
  if n = 0 then s.answer p f .malformed .none
  else
    match s.call n with
    | none => s.answer p f .notFound .none
    | some c => act c s

/-- R90. -/
def State.doTakeCall (p : PortId) (f : Frame) (s : State) : State :=
  s.withCall p f fun c s =>
    match c.state with
    | .offered => s.doneThen p f (State.takeCallFor p c)
    | .taken q => s.answer p f .taken (.port q)
    | .waiting => s.answer p f (.refused .notOffered) .none

/-- R91. -/
def State.doReleaseCall (p : PortId) (f : Frame) (s : State) : State :=
  s.withCall p f fun c s =>
    if c.state = .taken p then s.doneThen p f fun s => (s.releaseCallFrom p c).recomputeWindow []
    else s.answer p f (.refused .notHolder) .none

/-- R92. -/
def State.doCloseCall (p : PortId) (f : Frame) (s : State) : State :=
  s.withCall p f fun c s =>
    if c.state = .taken p then s.doneThen p f (State.closeCallFrom p c)
    else s.answer p f (.refused .notHolder) .none

/-! ### The withdrawal state (R130, R132) -/

/-- R130. -/
def State.doDeclare (p : PortId) (f : Frame) (s : State) : State :=
  match raisedStateOf (byteAt f.body 0) with
  | none => s.answer p f .malformed .none
  | some w =>
    if s.withdrawal.state.rank < w.rank then s.doneThen p f (State.raise w (.declared p))
    else s.answer p f .already (.wstate s.withdrawal.state)

/-- R132: the causes that refuse to leave a state: the zones, ISOLATED, and the sealed refuges. -/
def State.holdingCauses (s : State) (w : WState) : List Zone × Bool × List RefugeNo :=
  match w with
  | .withdraw => (s.zonesAt .withdraw, false, s.sealedRefuges)
  | _ => (s.zonesAt .trip, s.isolated, s.sealedRefuges)

/-- The state one step below. -/
def WState.below : WState → WState
  | .withdraw => .alert
  | _ => .normal

/-- R132. -/
def State.doStandDown (p : PortId) (f : Frame) (s : State) : State :=
  match raisedStateOf (byteAt f.body 0) with
  | none => s.answer p f .malformed .none
  | some w =>
    if s.withdrawal.state.rank < w.rank then s.answer p f .already (.wstate s.withdrawal.state)
    else if w.rank < s.withdrawal.state.rank then
      s.answer p f (.refused .stateChanged) (.wstate s.withdrawal.state)
    else
      let c := s.holdingCauses w
      if !c.1.isEmpty || c.2.1 || !c.2.2.isEmpty then
        s.answer p f (.refused .causePersists) (.causes c.1 c.2.1 c.2.2)
      else s.doneThen p f (State.lower w.below p)

/-! ### The road (R111, R114) -/

/-- R114: BLOCK_SEGMENT and OPEN_SEGMENT. -/
def State.doManual (p : PortId) (f : Frame) (on : Bool) (s : State) : State :=
  match index? 24 (byteAt f.body 0) with
  | none => s.answer p f .malformed .none
  | some k =>
    if s.segments[k.1].manual = on then s.answer p f .already .none
    else s.doneThen p f (State.setManual k on)

/-- R111. -/
def State.doClearTruck (p : PortId) (f : Frame) (s : State) : State :=
  match index? 16 (byteAt f.body 0) with
  | none => s.answer p f .malformed .none
  | some t =>
    if (s.image.identity t).isNone then s.answer p f .notFound .none
    else
      match s.trucks[t.1].state with
      | .active => s.answer p f (.refused .truckActive) .none
      | .unknown => s.answer p f .already .none
      | .lost => s.doneThen p f (State.watchTrucks (State.clearTruckRec t))

/-! ### Calibration (R35) -/

/-- R35: the calibration of a point is in flight. -/
def State.beginCal (pt : PointNo) (st : StationNo) (s : State) : State :=
  let c : Calibration :=
    { point := pt, station := st, channel := (s.image.point pt).channel, start := s.now, startTick := s.tick }
  (s.updLine (stationLine st) fun l => { l with slot := some c }).updPoint pt fun p =>
    { p with flags := { p.flags with cal := true } }

/-- R35. -/
def State.doCalStart (p : PortId) (f : Frame) (s : State) : State :=
  match index? 96 (byteAt f.body 0) with
  | none => s.answer p f .malformed .none
  | some pt =>
    match (s.image.point pt).station with
    | none => s.answer p f .notFound .none
    | some st =>
      if s.stationState (some st) ≠ some .online then s.answer p f (.refused .stationNotOnline) .none
      else if s.points[pt.1].levels.level.isTrip then s.answer p f (.refused .inAlarm) .none
      else if (s.line (stationLine st)).slot.isSome then s.answer p f .busy .none
      else
        match s.settings.edit with
        | some e => s.answer p f .held (.port e.holder)
        | none => s.doneThen p f (State.beginCal pt st)

/-! ### Settings (R164 to R166, R169) -/

def State.setEdit (e : Option Edit) (s : State) : State := { s with settings := { s.settings with edit := e } }

/-- R164: a calibration is in flight on either line. -/
def State.calibrating (s : State) : Bool := (s.line .one).slot.isSome || (s.line .two).slot.isSome

/-- R164. -/
def State.doEditOpen (p : PortId) (f : Frame) (s : State) : State :=
  match s.settings.edit with
  | some e =>
    if e.holder = p then s.answer p f .already .none else s.answer p f .held (.port e.holder)
  | none =>
    if s.calibrating then s.answer p f .busy .none
    else s.doneThen p f fun s => s.setEdit (some { holder := p, shadow := s.image, timer := s.tick })

/-- R165: EDIT_WRITE, EDIT_COMMIT and EDIT_CANCEL act only for the holder of an open edit. -/
def State.withEdit (p : PortId) (f : Frame) (act : Edit → State → State) (s : State) : State :=
  match s.settings.edit with
  | none => s.answer p f (.refused .noEdit) .none
  | some e => if e.holder = p then act e s else s.answer p f .held (.port e.holder)

/-- R165. -/
def State.doEditWrite (p : PortId) (f : Frame) (s : State) : State :=
  let sec := byteAt f.body 0
  let idx := byteAt f.body 1
  if (recordSize sec idx).isNone then s.answer p f .malformed .none
  else
    s.withEdit p f fun e s => s.doneThen p f fun s =>
      s.setEdit (some { e with shadow := e.shadow.write sec idx (f.body.drop 3), timer := s.tick })

/-- R165. -/
def State.doEditCancel (p : PortId) (f : Frame) (s : State) : State :=
  s.withEdit p f fun _ s => s.doneThen p f (State.setEdit none)

/-- R166. -/
def State.doEditCommit (p : PortId) (f : Frame) (s : State) : State :=
  s.withEdit p f fun e s =>
    match e.shadow.firstFailure with
    | some x => s.answer p f (.refused .invalidSettings) (.invalid x.1 x.2.1 x.2.2)
    | none =>
      if s.roadInUse e.shadow then s.answer p f (.refused .roadInUse) .none
      else s.doneThen p f (State.commitImage p e.shadow)

/-- R169: a CHECK_CLEAR pass is in flight. -/
def State.checking (s : State) : Bool :=
  match s.monitor.pass with
  | some (.checkClear _) => true
  | _ => false

/-- R169: the response of an accepted CHECK_CLEAR waits for its pass. -/
def State.doCheckClear (p : PortId) (f : Frame) (s : State) : State :=
  if !s.monitor.fault then s.answer p f .already .none
  else if s.checking then s.answer p f .busy .none
  else s.setPass (some (.checkClear (some (p, f.tag))))

/-! ### FULL_RESET (R174) -/

/-- R174: requests that the ports have queued are discarded without answers. -/
def State.dropRequests (s : State) : State :=
  forEach PortId.all (fun q => State.updPort q fun r => { r with requests := [] }) s

/-- R174: the cold start follows the transmission of the DONE response. -/
def State.doFullReset (p : PortId) (f : Frame) (s : State) : State :=
  if s.withdrawal.state ≠ .normal then s.answer p f (.refused .withdrawing) .none
  else s.doneThen p f fun s =>
    State.dropRequests { s with supply := { s.supply with resetPending := some p } }

/-- R161, R174: the ports take bytes: the start has left RESTORE, the part is not DORMANT, and no FULL_RESET is under
way (log 25). -/
def State.listens (s : State) : Bool := s.portsListen && s.supply.resetPending.isNone

/-- A command that comes about only when `ok`: it acts and the outputs are re-judged; otherwise nothing happens
(log 7). -/
def State.when (ok : Bool) (f : State → State) (s : State) : Host.Outcome State Fault Refusal :=
  if ok then .next (State.finish (f s)) else .next s

end Sys2Proof.Machine
end

