-- ==== Sys2Proof/Machine/LineRows.lean ====
section
/-!
DEFINITION. The rows of the field lines and their points: GAP_END, REPLY_TAKEN, REPLY_TIMEOUT, CAL_TIMEOUT and
STALE_LIMIT_EXPIRY.
-/
namespace Sys2Proof.Machine

/-- GAP_END (R2, R3): a line in GAP has reached the gap of the present supply state and begins its next pass. -/
def execGapEnd (ln : LineNo) (s : State) : Host.Outcome State Fault Refusal :=
  s.when (s.gapDue ln) (State.beginPass ln)

/-- REPLY_TAKEN (R6 to R9): the poll in flight ends with the reply; with no poll in flight the bytes are discarded. -/
def execReplyTaken (ln : LineNo) (bytes : List Byte) (s : State) : Host.Outcome State Fault Refusal :=
  match (s.line ln).poll with
  | some p => .next (State.finish ((s.takeReply p bytes).endPoll ln))
  | none => .next s

/-- REPLY_TIMEOUT (R6, R10): the poll in flight ends as a miss. -/
def execReplyTimeout (ln : LineNo) (s : State) : Host.Outcome State Fault Refusal :=
  match (s.line ln).poll with
  | some p => .next (State.finish ((s.miss p.station).endPoll ln))
  | none => .next s

/-- R35: the 60 s calibration timeout of a line's slot has run. -/
def State.calDue (s : State) (ln : LineNo) : Bool :=
  match (s.line ln).slot with
  | some c => s.elapsed c.startTick 60
  | none => false

/-- CAL_TIMEOUT (R38): the calibration fails with TIMEOUT. -/
def execCalTimeout (ln : LineNo) (s : State) : Host.Outcome State Fault Refusal :=
  s.when (s.calDue ln) (State.failCal ln .timeout)

/-- STALE_LIMIT_EXPIRY (R48): the stale TRIP flag of a fail-safe point is set. -/
def execStaleLimitExpiry (pt : PointNo) (s : State) : Host.Outcome State Fault Refusal :=
  s.when (s.staleDue pt) (State.setStaleTrip pt)

end Sys2Proof.Machine
end

