-- ==== Sys2Proof/Machine/PortRows.lean ====
section
/-!
DEFINITION. The rows of the client ports that are no requests: BYTE_GAP_TIMEOUT, FRAME_TAKEN, FRAME_BYTE_ARRIVES,
SUPERVISION_TIMER_EXPIRY and NOTICE_TRANSMITTED.
-/
namespace Sys2Proof.Machine

/-- BYTE_GAP_TIMEOUT (R152): more than 50 ms have passed after a byte of an incomplete frame. -/
def execByteGapTimeout (p : PortId) (s : State) : Host.Outcome State Fault Refusal :=
  s.when (s.listens && !(s.port p).assembly.isEmpty) (State.gapOut (s.port p).assembly.length p)

/-- FRAME_TAKEN (R152): the bytes of a frame arrive. -/
def execFrameTaken (p : PortId) (bytes : List Byte) (s : State) : Host.Outcome State Fault Refusal :=
  s.when s.listens (State.receive p bytes)

/-- FRAME_BYTE_ARRIVES (R152): one byte arrives. -/
def execFrameByteArrives (p : PortId) (byte : Byte) (s : State) : Host.Outcome State Fault Refusal :=
  s.when s.listens (State.receive p [byte])

/-- SUPERVISION_TIMER_EXPIRY (R153, R154): the port goes DOWN. -/
def execSupervisionTimerExpiry (p : PortId) (s : State) : Host.Outcome State Fault Refusal :=
  s.when (s.supervisionDue p) (State.portDown p)

/-- NOTICE_TRANSMITTED (R159, R156): the notice at the head of the port's queue leaves it, and the responses that waited
for the line take it; a DORMANT part sends none (R161). -/
def execNoticeTransmitted (p : PortId) (s : State) : Host.Outcome State Fault Refusal :=
  s.when (decide (s.supply.state ≠ .dormant) && !(s.port p).notices.isEmpty)
    (State.updPort p PortRec.endNotice)

end Sys2Proof.Machine
end

