-- ==== Sys2Proof/Machine/RequestRows.lean ====
section
/-!
DEFINITION. The request rows of the client ports. Each takes the request at the head of the port's request queue when that
is a request of its row (R156, log 6).
-/
namespace Sys2Proof.Machine

/-- READ (R157). -/
def execRead (p : PortId) (s : State) : Host.Outcome State Fault Refusal :=
  s.serve p .read (State.doRead p)

/-- FIND_TAG (R63). -/
def execFindTag (p : PortId) (s : State) : Host.Outcome State Fault Refusal :=
  s.serve p .findTag (State.doFindTag p)

/-- SET_TIME (R158). -/
def execSetTime (p : PortId) (s : State) : Host.Outcome State Fault Refusal :=
  s.serve p .setTime (State.doSetTime p)

/-- KEEPALIVE (R153). -/
def execKeepalive (p : PortId) (s : State) : Host.Outcome State Fault Refusal :=
  s.serve p .keepalive (State.doKeepalive p)

/-- ACK_ALARM (R54). -/
def execAckAlarm (p : PortId) (s : State) : Host.Outcome State Fault Refusal :=
  s.serve p .ackAlarm (State.doAckAlarm p)

/-- RESET_TRIP naming a zone (R56). -/
def execResetTripZone (p : PortId) (s : State) : Host.Outcome State Fault Refusal :=
  s.serve p .resetTripZone (State.doResetZone p)

/-- RESET_TRIP naming ALL (R57). -/
def execResetTripAll (p : PortId) (s : State) : Host.Outcome State Fault Refusal :=
  s.serve p .resetTripAll (State.doResetAll p)

/-- RESET_TRIP naming an output (R58). -/
def execResetTripOutput (p : PortId) (s : State) : Host.Outcome State Fault Refusal :=
  s.serve p .resetTripOutput (fun f => State.doForce p f (byteAt f.body 1) false)

/-- FORCE_TRIP (R58). -/
def execForceTrip (p : PortId) (s : State) : Host.Outcome State Fault Refusal :=
  s.serve p .forceTrip (fun f => State.doForce p f (byteAt f.body 0) true)

/-- TAKE_CALL (R90). -/
def execTakeCall (p : PortId) (s : State) : Host.Outcome State Fault Refusal :=
  s.serve p .takeCall (State.doTakeCall p)

/-- RELEASE_CALL (R91). -/
def execReleaseCall (p : PortId) (s : State) : Host.Outcome State Fault Refusal :=
  s.serve p .releaseCall (State.doReleaseCall p)

/-- CLOSE_CALL (R92). -/
def execCloseCall (p : PortId) (s : State) : Host.Outcome State Fault Refusal :=
  s.serve p .closeCall (State.doCloseCall p)

/-- DECLARE (R130). -/
def execDeclare (p : PortId) (s : State) : Host.Outcome State Fault Refusal :=
  s.serve p .declare (State.doDeclare p)

/-- STAND_DOWN (R132). -/
def execStandDown (p : PortId) (s : State) : Host.Outcome State Fault Refusal :=
  s.serve p .standDown (State.doStandDown p)

/-- BLOCK_SEGMENT (R114). -/
def execBlockSegment (p : PortId) (s : State) : Host.Outcome State Fault Refusal :=
  s.serve p .blockSegment (fun f => State.doManual p f true)

/-- OPEN_SEGMENT (R114). -/
def execOpenSegment (p : PortId) (s : State) : Host.Outcome State Fault Refusal :=
  s.serve p .openSegment (fun f => State.doManual p f false)

/-- CLEAR_TRUCK (R111). -/
def execClearTruck (p : PortId) (s : State) : Host.Outcome State Fault Refusal :=
  s.serve p .clearTruck (State.doClearTruck p)

/-- CAL_START (R35). -/
def execCalStart (p : PortId) (s : State) : Host.Outcome State Fault Refusal :=
  s.serve p .calStart (State.doCalStart p)

/-- EDIT_OPEN (R164). -/
def execEditOpen (p : PortId) (s : State) : Host.Outcome State Fault Refusal :=
  s.serve p .editOpen (State.doEditOpen p)

/-- EDIT_WRITE (R165). -/
def execEditWrite (p : PortId) (s : State) : Host.Outcome State Fault Refusal :=
  s.serve p .editWrite (State.doEditWrite p)

/-- EDIT_COMMIT (R166, R167). -/
def execEditCommit (p : PortId) (s : State) : Host.Outcome State Fault Refusal :=
  s.serve p .editCommit (State.doEditCommit p)

/-- EDIT_CANCEL (R165). -/
def execEditCancel (p : PortId) (s : State) : Host.Outcome State Fault Refusal :=
  s.serve p .editCancel (State.doEditCancel p)

/-- CHECK_CLEAR (R169). -/
def execCheckClear (p : PortId) (s : State) : Host.Outcome State Fault Refusal :=
  s.serve p .checkClear (State.doCheckClear p)

/-- FULL_RESET (R174). -/
def execFullReset (p : PortId) (s : State) : Host.Outcome State Fault Refusal :=
  s.serve p .fullReset (State.doFullReset p)

end Sys2Proof.Machine
end

