-- ==== Sys2Proof/Machine/SupplyRows.lean ====
section
/-!
DEFINITION. The rows of the Supply and Hold-up Unit: the two inputs, the save, and the starts.
-/
namespace Sys2Proof.Machine

def State.setMains (on : Bool) (s : State) : State := { s with supply := { s.supply with mainsOk := on } }
def State.setBattLow (on : Bool) (s : State) : State := { s with supply := { s.supply with battLow := on } }

/-- R171: what MAINS_OK going low does to the supply state. -/
def State.mainsLost (s : State) : State :=
  if s.supplyActs && decide (s.supply.state = .mains) then
    if s.supply.battLow then s.enterHoldup else s.changeSupply .battery
  else s

/-- R171: what MAINS_OK going high does to the supply state. -/
def State.mainsBack (s : State) : State :=
  if s.supplyActs then
    match s.supply.state with
    | .battery => s.changeSupply .mains
    | .dormant => s.beginStart s.wakeCause
    | _ => s
  else s

/-- R171: what BATT_LOW asserted does to the supply state. -/
def State.battSpent (s : State) : State :=
  if s.supplyActs && decide (s.supply.state = .battery) then s.enterHoldup else s

/-- MAINS_OK_LOW (R171). -/
def execMainsOkLow (s : State) : Host.Outcome State Fault Refusal := .next (s.setMains false).mainsLost.finish

/-- MAINS_OK_HIGH (R171, R173). -/
def execMainsOkHigh (s : State) : Host.Outcome State Fault Refusal := .next (s.setMains true).mainsBack.finish

/-- BATT_LOW_ASSERTED (R171). -/
def execBattLowAsserted (s : State) : Host.Outcome State Fault Refusal := .next (s.setBattLow true).battSpent.finish

/-- BATT_LOW_CLEARED (R171): it changes no state. -/
def execBattLowCleared (s : State) : Host.Outcome State Fault Refusal := .next (s.setBattLow false)

/-- SAVE_COPY (R172, stage 2). -/
def execSaveCopy (s : State) : Host.Outcome State Fault Refusal := s.when s.quiet State.copyStore

/-- SAVE_COMPLETE (R171, R172): the completion mark of the copy being written is set. -/
def execSaveComplete (s : State) : Host.Outcome State Fault Refusal :=
  match s.supply.save with
  | .writing d lost => .next (State.finish (s.endSave d lost))
  | _ => .next s

/-- POWER_ON (R173): supply returns to a part that had lost it; only the store is retained. -/
def execPowerOn (s : State) : Host.Outcome State Fault Refusal := .next (s.beginStart .powerOn).finish

/-- SELF_TEST_COMPLETE (R173). -/
def execSelfTestComplete (failed : Bool) (s : State) : Host.Outcome State Fault Refusal :=
  s.when (decide (s.supply.phase = .selfTest)) (State.endSelfTest failed)

/-- RESTORE_COMPLETE (R173). -/
def execRestoreComplete (s : State) : Host.Outcome State Fault Refusal :=
  s.when (decide (s.supply.phase = .restore)) State.endRestore

/-- R174: the store's completion mark is cleared, and a COLD start begins with the cause FULL_RESET. -/
def State.resetStart (s : State) : State :=
  State.beginStart .fullReset { s with supply := { s.supply with store := { s.supply.store with mark := false } } }

/-- R174, R162: the DONE response to a FULL_RESET has been sent in full: none of the port's responses waits for the
line. A port that goes DOWN loses the responses that wait, the DONE among them, and holds the cold start up no longer
(DESIGN CHOICE, log 8). -/
def State.resetDue (s : State) : Bool :=
  match s.supply.resetPending with
  | some p => (s.port p).held.isEmpty
  | none => false

/-- FULL_RESET_COLD_START (R174): the DONE response has been sent in full. -/
def execFullResetColdStart (s : State) : Host.Outcome State Fault Refusal := s.when s.resetDue State.resetStart

end Sys2Proof.Machine
end

