-- ==== Sys2Proof/Machine/TimerRows.lean ====
section
/-!
DEFINITION. The rows of the other timers: UNSEEN_ADVANCE, CALL_AGE_ADVANCE, TRUCK_LOSS_TIMER_EXPIRY, EDIT_EXPIRED, the
integrity passes and CLOCK_SECOND.
-/
namespace Sys2Proof.Machine

/-- R70: a record of the tag whose next second has passed. -/
def State.unseenReady (s : State) (t : Tag) : Bool :=
  match s.miner t with
  | some r => s.unseenDue r
  | none => false

/-- UNSEEN_ADVANCE (R70 to R72). -/
def execUnseenAdvance (tag : Tag) (s : State) : Host.Outcome State Fault Refusal :=
  s.when (s.unseenReady tag) fun s => (s.advanceUnseen tag).settleMuster s.musterFigures

/-- CALL_AGE_ADVANCE (R86). -/
def execCallAgeAdvance (number : Nat) (s : State) : Host.Outcome State Fault Refusal :=
  match s.call number with
  | some c => s.when (s.ageDue c) (State.advanceAge c)
  | none => .next s

/-- TRUCK_LOSS_TIMER_EXPIRY (R110). -/
def execTruckLossTimerExpiry (t : TruckNo) (s : State) : Host.Outcome State Fault Refusal :=
  s.when (s.truckDue t) (State.watchTrucks (State.loseTruck t))

/-- R165: the 120 s inactivity timer of an open edit has run. -/
def State.editDue (s : State) : Bool :=
  match s.settings.edit with
  | some e => s.elapsed e.timer 120
  | none => false

/-- EDIT_EXPIRED (R165). -/
def execEditExpired (s : State) : Host.Outcome State Fault Refusal :=
  s.when s.editDue fun s => (s.setEdit none).notify .settingsEditExpired

/-- INTEGRITY_PASS_START (R168). -/
def execIntegrityPassStart (s : State) : Host.Outcome State Fault Refusal := s.when s.periodDue State.startPass

/-- INTEGRITY_PASS_COMPLETE (R168, R169). -/
def execIntegrityPassComplete (s : State) : Host.Outcome State Fault Refusal :=
  s.when s.monitor.pass.isSome State.completePass

/-- R158: the 100th tick of the running second has come, and no save has stopped the counter. -/
def State.secondDue (s : State) : Bool := !s.clock.stopped && decide (s.clock.from_ + 100 ≤ s.tick)

/-- R158: the seconds counter advances by 1 and wraps. -/
def State.nextSecond (s : State) : State :=
  { s with clock := { s.clock with seconds := wrapInc 4294967296 s.clock.seconds, from_ := s.clock.from_ + 100 } }

/-- CLOCK_SECOND (R158). -/
def execClockSecond (s : State) : Host.Outcome State Fault Refusal := s.when s.secondDue State.nextSecond

end Sys2Proof.Machine
end

