-- ==== Sys2Proof/Machine/Dispatch.lean ====
section
/-!
DEFINITION. `exec`: one arm for each command, in the order of spec/opcode_table.json.
-/
namespace Sys2Proof.Machine

def exec (i : Instr) (s : State) : Host.Outcome State Fault Refusal :=
  match i with
  | .gapEnd ln => Sys2Proof.Machine.execGapEnd ln s
  | .replyTaken ln bytes => Sys2Proof.Machine.execReplyTaken ln bytes s
  | .replyTimeout ln => Sys2Proof.Machine.execReplyTimeout ln s
  | .calTimeout ln => Sys2Proof.Machine.execCalTimeout ln s
  | .staleLimitExpiry pt => Sys2Proof.Machine.execStaleLimitExpiry pt s
  | .unseenAdvance tag => Sys2Proof.Machine.execUnseenAdvance tag s
  | .callAgeAdvance number => Sys2Proof.Machine.execCallAgeAdvance number s
  | .truckLossTimerExpiry t => Sys2Proof.Machine.execTruckLossTimerExpiry t s
  | .byteGapTimeout p => Sys2Proof.Machine.execByteGapTimeout p s
  | .frameTaken p bytes => Sys2Proof.Machine.execFrameTaken p bytes s
  | .supervisionTimerExpiry p => Sys2Proof.Machine.execSupervisionTimerExpiry p s
  | .noticeTransmitted p => Sys2Proof.Machine.execNoticeTransmitted p s
  | .read p => Sys2Proof.Machine.execRead p s
  | .findTag p => Sys2Proof.Machine.execFindTag p s
  | .setTime p => Sys2Proof.Machine.execSetTime p s
  | .keepalive p => Sys2Proof.Machine.execKeepalive p s
  | .ackAlarm p => Sys2Proof.Machine.execAckAlarm p s
  | .resetTripZone p => Sys2Proof.Machine.execResetTripZone p s
  | .resetTripAll p => Sys2Proof.Machine.execResetTripAll p s
  | .resetTripOutput p => Sys2Proof.Machine.execResetTripOutput p s
  | .forceTrip p => Sys2Proof.Machine.execForceTrip p s
  | .takeCall p => Sys2Proof.Machine.execTakeCall p s
  | .releaseCall p => Sys2Proof.Machine.execReleaseCall p s
  | .closeCall p => Sys2Proof.Machine.execCloseCall p s
  | .declare p => Sys2Proof.Machine.execDeclare p s
  | .standDown p => Sys2Proof.Machine.execStandDown p s
  | .blockSegment p => Sys2Proof.Machine.execBlockSegment p s
  | .openSegment p => Sys2Proof.Machine.execOpenSegment p s
  | .clearTruck p => Sys2Proof.Machine.execClearTruck p s
  | .calStart p => Sys2Proof.Machine.execCalStart p s
  | .editOpen p => Sys2Proof.Machine.execEditOpen p s
  | .editWrite p => Sys2Proof.Machine.execEditWrite p s
  | .editCommit p => Sys2Proof.Machine.execEditCommit p s
  | .editCancel p => Sys2Proof.Machine.execEditCancel p s
  | .editExpired => Sys2Proof.Machine.execEditExpired s
  | .checkClear p => Sys2Proof.Machine.execCheckClear p s
  | .fullReset p => Sys2Proof.Machine.execFullReset p s
  | .integrityPassStart => Sys2Proof.Machine.execIntegrityPassStart s
  | .integrityPassComplete => Sys2Proof.Machine.execIntegrityPassComplete s
  | .clockSecond => Sys2Proof.Machine.execClockSecond s
  | .mainsOkLow => Sys2Proof.Machine.execMainsOkLow s
  | .mainsOkHigh => Sys2Proof.Machine.execMainsOkHigh s
  | .battLowAsserted => Sys2Proof.Machine.execBattLowAsserted s
  | .battLowCleared => Sys2Proof.Machine.execBattLowCleared s
  | .saveCopy => Sys2Proof.Machine.execSaveCopy s
  | .saveComplete => Sys2Proof.Machine.execSaveComplete s
  | .powerOn => Sys2Proof.Machine.execPowerOn s
  | .selfTestComplete failed => Sys2Proof.Machine.execSelfTestComplete failed s
  | .restoreComplete => Sys2Proof.Machine.execRestoreComplete s
  | .frameByteArrives p byte => Sys2Proof.Machine.execFrameByteArrives p byte s
  | .fullResetColdStart => Sys2Proof.Machine.execFullResetColdStart s

end Sys2Proof.Machine
end

