-- ==== Sys2Proof/Machine/Step.lean ====
section
/-!
DEFINITION. One step of the machine: the command at the front of the queue is taken; on an empty queue one 10 ms tick of
the Section Clock passes.
-/
namespace Sys2Proof.Machine

/-- 9.4: one 10 ms tick passes. What comes due at a tick is a command of its own (log 1). -/
def State.passTick (s : State) : State := { s with tick := s.tick + 1 }

/-- The command at the front of the queue is taken and executed with the queue's rest; an empty queue lets one tick
pass (DESIGN CHOICE, log 1). -/
def step (s : State) : Host.Outcome State Fault Refusal :=
  match s.pending with
  | c :: rest => exec c { s with pending := rest }
  | [] => .next s.passTick

/-- The command that a word spells, put at the front of the queue; no word spells one. -/
def State.withFetchWord (s : State) (nbits w : Nat) : State :=
  match decodeTableWord nbits w with
  | some c => { s with pending := c :: s.pending }
  | none => s

end Sys2Proof.Machine
end

