-- ==== Sys2Proof/Machine/Encode.lean ====
section
/-!
DEFINITION. The frames as a sender writes them: the client-port frame (12.1) and the reply of each station kind (12.2).
The meanings never call these; the claims about reading a frame are stated with them.
-/
namespace Sys2Proof.Machine

/-- A client-port frame (12.1): marker, length, kind, tag, body, and the CRC-16 over all but the marker. -/
def portFrame (f : Frame) : List Byte :=
  let checked := bytes16 f.body.length ++ [f.kind, f.tag] ++ f.body
  marker :: checked ++ bytes16 (crc16 checked).toNat

/-- A signed field of two bytes (chapter 12). -/
def signedBytes (x : Int) : List Byte := bytes16 (x % 65536).toNat

/-- The station kind that sends a reply body. -/
def ReplyBody.kind : ReplyBody → StationKind
  | .sensorHead .. => .sensorHead
  | .zoneReader _ => .zoneReader
  | .roadBeacon _ => .roadBeacon
  | .refugePanel .. => .refugePanel

def channelBytes (c : ChannelReport) : List Byte := byte c.channel :: bytes16 c.raw ++ [byte (if c.ok then 0 else 1)]

def sightingBytes (g : Sighting) : List Byte :=
  bytes24 g.tag.toNat ++ [byte (match g.press with | .none => 0 | .short => 1 | .held => 2)]

def reportBytes (r : TruckReport) : List Byte :=
  bytes16 r.identity ++ [byte r.segment] ++ bytes16 r.position ++ bytes16 r.speed
    ++ [byte (match r.dir with | .inbye => 0 | .outbye => 1), byte r.request]

/-- The body of a reply (12.2). -/
def ReplyBody.bytes : ReplyBody → List Byte
  | .sensorHead temp result channels =>
    signedBytes (temp.getD 0) ++ [byte (if temp.isSome then 0 else 1)] ++ bytes16 (result.getD 0xFFFF)
      ++ byte channels.length :: channels.flatMap channelBytes
  | .zoneReader sightings => byte sightings.length :: sightings.flatMap sightingBytes
  | .roadBeacon reports => byte reports.length :: reports.flatMap reportBytes
  | .refugePanel door airLow batteryLow =>
    [byte door, byte ((if airLow then 1 else 0) + (if batteryLow then 2 else 0))]

/-- A reply frame (12.2): marker, length, address, kind, body, and the CRC-16 over all but the marker. -/
def replyFrame (st : StationNo) (b : ReplyBody) : List Byte :=
  let checked := [byte b.bytes.length, byte (stationAddr st), byte b.kind.code] ++ b.bytes
  marker :: checked ++ bytes16 (crc16 checked).toNat

/-- The counts and the fields of a reply body are within what the table of 12.2 can carry. -/
def ReplyBody.fits : ReplyBody → Prop
  | .sensorHead temp result channels =>
    (∀ x, temp = some x → -32768 ≤ x ∧ x < 32768) ∧ (∀ n, result = some n → n < 65535) ∧ channels.length ≤ 4 ∧
      ∀ c ∈ channels, c.channel < 256 ∧ c.raw < 65536
  | .zoneReader sightings => sightings.length ≤ 8
  | .roadBeacon reports => reports.length ≤ 2 ∧ ∀ r ∈ reports,
      r.identity < 65536 ∧ r.segment < 256 ∧ r.position < 65536 ∧ r.speed < 65536 ∧ r.request < 256
  | .refugePanel door _ _ => door < 256

end Sys2Proof.Machine
end

