-- ==== Sys2Proof/Safety.lean ====
section
/-!
DEFINITION. What counts as a safe state, in the terms the claims use: the laws of the device as predicates.
-/
namespace Sys2Proof.Machine

/-- R59 and R60: a trip output is open exactly while a condition of R59 holds it, or it was open when the conditions
ceased under a latched SETTINGS_FAULT, and then its fault-hold flag is set. -/
def State.TripLaw (s : State) : Prop :=
  ∀ k : OutNo,
    ((s.tripConds k).any = true → s.trips[k.1].isOpen = true) ∧
    (s.trips[k.1].isOpen = true → (s.tripConds k).any = true ∨ s.monitor.fault = true) ∧
    s.trips[k.1].faultHold = (s.monitor.fault && s.trips[k.1].isOpen)

/-- R147 and R149: every signal output is ON exactly while it is supplied, the phase is RUNNING and a driver holds. -/
def State.SignalLaw (s : State) : Prop := ∀ k : OutNo, s.signals[k.1].on = s.signalOn k

/-- R150 and R151: the fault line is asserted exactly while an enabled cause holds. -/
def State.FaultLaw (s : State) : Prop := s.faultLine = s.faultAsserted

/-- The laws of the outputs. -/
def State.OutputLaws (s : State) : Prop := s.TripLaw ∧ s.SignalLaw ∧ s.FaultLaw

/-- R138, R142, R113: an entry that is ACTIVE is enabled; it stands among the holders of an output, and in the INTERLOCK
set of a segment, exactly while it is ACTIVE with an action that names the output or the segment. No entry waits for a
rebuild between two commands (R145). -/
structure State.HolderLaw (s : State) : Prop where
  enabled : ∀ n : EntryNo, s.entries[n.1].active = true → (s.image.entry n).enabled = true
  trips : ∀ (k : OutNo) (n : EntryNo),
    s.trips[k.1].holders[n.1] = (s.entries[n.1].active && inMask (s.image.entry n).action.tripMask k.1)
  signals : ∀ (k : OutNo) (n : EntryNo),
    s.signals[k.1].holders[n.1] = (s.entries[n.1].active && inMask (s.image.entry n).action.signalMask k.1)
  segments : ∀ (k : SegNo) (n : EntryNo),
    s.segments[k.1].interlock[n.1] = (s.entries[n.1].active && inMask (s.image.entry n).action.blockMask k.1)
  rebuilt : ∀ n : EntryNo, s.entries[n.1].rebuilding = false

/-- R53: the alarm list holds an ACTIVE record for a zone and level exactly when the zone's level is at or above it. -/
def AlarmState.isActive : AlarmState → Bool
  | .activeUnack | .activeAcked _ => true
  | .clearedUnack => false

def State.AlarmLawOf (s : State) (z : Zone) : Prop :=
  ∀ g : Grade,
    ((∃ r ∈ s.alarms, r.is z g = true ∧ r.state.isActive = true) ↔ g.level.rank ≤ s.zones[z.1].level.rank) ∧
    (s.alarms.filter (AlarmRec.is z g)).length ≤ 1

/-- R53: the list never holds two records for one zone and level. -/
def alarmsOk (rs : List AlarmRec) : Prop := ∀ (z : Zone) (g : Grade), (rs.filter (AlarmRec.is z g)).length ≤ 1

/-- R53's law of the device for every zone and level; the lists that the store and a copy being written hold have one
record at most for each pair. -/
def State.AlarmLaw (s : State) : Prop :=
  (∀ z : Zone, s.AlarmLawOf z) ∧ (∀ d, s.supply.store.data = some d → alarmsOk d.alarms) ∧
    ∀ d n, s.supply.save = .writing d n → alarmsOk d.alarms

/-- R55: while a zone's level is TRIP or WITHDRAW its trip latch is set; R112: a segment carries GAS exactly while the
latch of its zone is set. -/
def State.GasLaw (s : State) : Prop :=
  (∀ z : Zone, Level.trip.rank ≤ s.zones[z.1].level.rank → s.zones[z.1].latch = true) ∧
    ∀ k : SegNo, s.segments[k.1].gas = s.zones[(s.image.segment k).zone.1].latch

/-- The laws of the Call Queue: R80's order, capacity and one open call for a tag, R81's numbers, R88's window, whose calls
are the OFFERED ones, and R93's ports, each of which is UP while it holds a call. -/
structure State.CallLaw (s : State) : Prop where
  capacity : s.calls.calls.length ≤ 32
  numbers : (s.calls.calls.map Call.number).Nodup
  range : ∀ c ∈ s.calls.calls, 1 ≤ c.number ∧ c.number ≤ 255
  nextNumber : 1 ≤ s.calls.nextNumber ∧ s.calls.nextNumber ≤ 255
  order : s.calls.calls.Pairwise fun a b => a.before b = true
  raiseOrders : (s.calls.calls.map Call.order).Nodup
  nextOrder : ∀ c ∈ s.calls.calls, c.order < s.calls.nextOrder
  tags : s.calls.calls.Pairwise fun a b => a.tag = none ∨ a.tag ≠ b.tag
  offered : ∀ c ∈ s.calls.calls, c.state = .offered ↔ c.number ∈ s.window
  taken : ∀ c ∈ s.calls.calls, ∀ p, c.state = .taken p → (s.port p).state = .up

/-- R115: a BLOCKED segment is held by no truck, or by the truck whose current segment it is. -/
def heldAtMost (blocked : Bool) (k : SegNo) (holder : Option TruckNo) (trucks : TruckNo → TruckRec) : Prop :=
  blocked = true → ∀ t, holder = some t → ∃ r, (trucks t).run = some r ∧ r.cur = k

/-- R115's law of the device in the live tables; in retained ones a segment is BLOCKED by its zone's latch or its MANUAL
flag, the INTERLOCK sets being set afresh at the start (R121). -/
def Saved.blockLaw (d : Saved) : Prop :=
  ∀ k : SegNo, heldAtMost (d.latches[((d.image.getD Image.default).segment k).zone.1].1 || d.manual[k.1]) k
    d.holders[k.1] fun t => d.trucks[t.1]

def State.BlockLaw (s : State) : Prop :=
  (∀ k : SegNo, heldAtMost s.segments[k.1].blocked k s.segments[k.1].holder fun t => s.trucks[t.1]) ∧
    (∀ d, s.supply.store.data = some d → d.blockLaw) ∧ ∀ d n, s.supply.save = .writing d n → d.blockLaw

/-- R76: the unaccounted count; R125 to R127: a refuge's occupants, OVER_CAPACITY, impaired flag and beacon pattern. -/
def State.MusterLaw (s : State) : Prop :=
  s.roster.unaccounted = (if s.withdrawal.state = .withdraw then
    s.roster.records.countP fun r => decide (r.state = .present ∨ r.state = .missing) else 0) ∧
  ∀ n : RefugeNo,
    s.refuges[n.1].occupants = (s.roster.records.countP fun r => decide (r.state = .inRefuge n)) ∧
    (s.refuges[n.1].overCapacity = true ↔ (s.image.refuge n).capacity < s.refuges[n.1].occupants) ∧
    (s.refuges[n.1].impaired = true ↔ ∃ z, (s.image.refuge n).zone = some z ∧
      (s.refuges[n.1].airLow = true ∨ s.refuges[n.1].batteryLow = true ∨ s.refuges[n.1].overCapacity = true ∨
        Level.trip.rank ≤ s.zones[z.1].level.rank)) ∧
    s.refuges[n.1].pattern =
      if (s.image.refuge n).zone = none ∨ s.withdrawal.state = .normal then .off
      else if s.refuges[n.1].impaired then .pulseQuarter
      else if s.withdrawal.state = .withdraw then .steady else .pulse1Hz

/-- R1, R4, R39, R136, R161: before RUNNING the lines are IDLE with nothing in flight, every point is at its cold values and
every refuge's door is UNKNOWN, and before the start has left RESTORE every port is DOWN. -/
structure State.StartLaw (s : State) : Prop where
  lines : s.supply.phase ≠ .running → ∀ ln,
    (s.line ln).state = .idle ∧ (s.line ln).pollList = [] ∧ (s.line ln).poll = none ∧ (s.line ln).slot = none
  points : s.supply.phase ≠ .running → ∀ pt : PointNo, s.points[pt.1] = PointRt.cold
  doors : s.supply.phase ≠ .running → ∀ n : RefugeNo, s.refuges[n.1].door = .unknown
  ports : s.supply.phase = .selfTest ∨ s.supply.phase = .restore → ∀ p, (s.port p).state = .down

/-- R132's law of the device: while any zone's level is WITHDRAW the withdrawal state is WITHDRAW, and while any refuge
door is SEALED it is not NORMAL. -/
def State.WithdrawalLaw (s : State) : Prop :=
  (∀ z : Zone, s.zones[z.1].level = .withdraw → s.withdrawal.state = .withdraw) ∧
    ∀ n : RefugeNo, s.refuges[n.1].door = .isSealed → s.withdrawal.state ≠ .normal

/-- 10.2's law of the device: while a settings edit is open no calibration is in flight. -/
def State.EditLaw (s : State) : Prop := s.settings.edit.isSome = true → ∀ ln, (s.line ln).slot = none

/-! ### Frames: what a command leaves alone -/

/-- The areas of the state a frame can name. Those of the records that several rules write in parts stand in parts:
`stations` is a station record but its lamp list, `outputs` the three kinds of outputs as driven, `tripHolders` and
`signalHolders` the entries that hold them; a port record is `links`, `requests`, `notices` with the notice sequence and
the count of lost ones, and `responses` with those that wait for the line and what has gone out on it. -/
inductive Area where
  | tick | clock | lines | stations | lamps | delivery | points | zones | alarms | forced | tripHolders | outputs | roster
  | calls | segments | trucks | road | refuges | withdrawal | entries | signalHolders | links | requests | notices
  | responses | settings | monitor | supply | pending
deriving DecidableEq, Repr

/-- A station record without its lamp list. -/
def StationRec.bare (r : StationRec) : StationRec := { r with lamps := [] }

/-- The part of a port record that frames and supervision write (R152, R153). -/
def PortRec.link (r : PortRec) : PortState × Tick × Nat × Nat × Nat × List Byte × Bool :=
  (r.state, r.supervised, r.valid, r.bad, r.overruns, r.assembly, r.restartDue)

/-- The part of a port record that notices write (R159). -/
def PortRec.noticing (r : PortRec) : List (Nat × Notice) × Nat × Nat := (r.notices, r.nextSeq, r.lost)

/-- The part of a port record that responses write (R156), with what has gone out on the line. -/
def PortRec.answering (r : PortRec) : List Response × List Response × List Sent := (r.responses, r.held, r.sent)

/-- One area holds in `t` what it holds in `s`. -/
def State.SameAt (s t : State) : Area → Prop
  | .tick => t.tick = s.tick
  | .clock => t.clock = s.clock
  | .lines => t.lines = s.lines
  | .stations => ∀ st : StationNo, t.stations[st.1].map StationRec.bare = s.stations[st.1].map StationRec.bare
  | .lamps => ∀ st : StationNo, t.stations[st.1].map StationRec.lamps = s.stations[st.1].map StationRec.lamps
  | .delivery => t.delivery = s.delivery
  | .points => t.points = s.points
  | .zones => t.zones = s.zones
  | .alarms => t.alarms = s.alarms
  | .forced => ∀ k : OutNo, t.trips[k.1].forced = s.trips[k.1].forced
  | .tripHolders => ∀ k : OutNo, t.trips[k.1].holders = s.trips[k.1].holders
  | .outputs =>
    (∀ k : OutNo, t.trips[k.1].isOpen = s.trips[k.1].isOpen ∧ t.trips[k.1].faultHold = s.trips[k.1].faultHold
      ∧ t.signals[k.1].on = s.signals[k.1].on) ∧ t.faultLine = s.faultLine
  | .roster => t.roster = s.roster
  | .calls => t.calls = s.calls
  | .segments => t.segments = s.segments
  | .trucks => t.trucks = s.trucks
  | .road => t.road = s.road
  | .refuges => t.refuges = s.refuges
  | .withdrawal => t.withdrawal = s.withdrawal
  | .entries => t.entries = s.entries
  | .signalHolders => ∀ k : OutNo, t.signals[k.1].holders = s.signals[k.1].holders
  | .links => ∀ p : PortId, (t.port p).link = (s.port p).link
  | .requests => ∀ p : PortId, (t.port p).requests = (s.port p).requests
  | .notices => ∀ p : PortId, (t.port p).noticing = (s.port p).noticing
  | .responses => ∀ p : PortId, (t.port p).answering = (s.port p).answering
  | .settings => t.settings = s.settings
  | .monitor => t.monitor = s.monitor
  | .supply => t.supply = s.supply
  | .pending => t.pending = s.pending

/-- Every area but the named ones is the same in `t` as in `s`. -/
structure State.SameBut (changed : List Area) (s t : State) : Prop where
  same : ∀ a, a ∉ changed → s.SameAt t a

/-- What a raise of the withdrawal state can reach (R133, R138 to R144). -/
abbrev chainAreas : List Area :=
  [.lamps, .delivery, .tripHolders, .outputs, .roster, .calls, .segments, .trucks, .refuges, .withdrawal, .entries,
   .signalHolders, .notices]

/-- What the setting or clearing of a latch can reach (R55). -/
abbrev latchAreas : List Area := [.zones, .delivery, .outputs, .segments, .trucks, .notices]

/-- What a change of a zone's level can reach (R51). -/
abbrev zoneAreas : List Area := .zones :: .alarms :: chainAreas

/-- What a change of a station's state can reach (R11). -/
abbrev fieldAreas : List Area := .stations :: .lines :: .points :: zoneAreas

/-- What the content of a good reply can reach (R9). -/
abbrev contentAreas : List Area :=
  .settings :: .monitor :: .responses :: .road :: .lines :: .points :: zoneAreas

/-- What a reply and the end of a poll can reach. -/
abbrev replyAreas : List Area := .stations :: contentAreas

/-- What a port going DOWN can reach (R154). -/
abbrev downAreas : List Area := .links :: .requests :: .responses :: .settings :: .monitor :: chainAreas

/-- What bytes on a port can reach (R152, R153). -/
abbrev frameAreas : List Area := [.links, .requests, .notices, .calls]

/-- What a commit can reach, the Settings Store and the first start of the lines apart (R167). -/
abbrev commitAreas : List Area := .links :: .requests :: .responses :: .settings :: .monitor :: .road :: fieldAreas

/-- What the end of a command can reach by itself: the outputs and their notices, and the frames that are answered because
they spell no request. -/
abbrev endAreas : List Area := [.outputs, .notices, .requests, .responses]

/-! ### Levels (R40) -/

/-- R40: the state of one level of a point. -/
def LevelStates.of (l : LevelStates) : Grade → LevelState
  | .warn => l.warn
  | .trip => l.trip
  | .withdraw => l.withdraw

/-! ### A line's walk (R2) -/

/-- R2: the walk of a line stands at the first station from place `k` on that is not SKIPPED, its poll in flight; or
there is none, and the line is in GAP since now. -/
def State.WalkFrom (t : State) (ln : LineNo) (k : Nat) : Prop :=
  match (t.line ln).poll with
  | some p =>
    (t.line ln).state = .polling ∧ k ≤ (t.line ln).cursor ∧
      (t.line ln).pollList[(t.line ln).cursor]? = some { station := p.station, kind := p.kind } ∧
      t.passedOver p.station = false ∧
      ∀ j e, k ≤ j → j < (t.line ln).cursor → (t.line ln).pollList[j]? = some e → t.passedOver e.station = true
  | none =>
    (t.line ln).state = .gap ∧ (t.line ln).gapStart = some t.tick ∧
      ∀ j e, k ≤ j → (t.line ln).pollList[j]? = some e → t.passedOver e.station = true

/-- R5: the request of a line's poll in flight is the one that its station's present entry and the present state of the
owning blocks give. -/
def State.RequestNow (t : State) (ln : LineNo) : Prop :=
  ∀ p, (t.line ln).poll = some p → p = t.assemble { station := p.station, kind := p.kind }

/-- R2: a station that the walk passes over once the poll `p` has ended: one that is SKIPPED, or due to become so at the
end of that poll (R12), or has no record. -/
def State.passedAfter (s : State) (p : Poll) (st : StationNo) : Bool :=
  if st = p.station then p.dueSkip || s.stations[st.1].isNone else s.passedOver st

/-- R2, R3: the end of the line's poll in flight begins the next pass at once: no station of the pass is left to be
polled, and the gap is 0. -/
def State.turnsOver (s : State) (ln : LineNo) (p : Poll) : Prop :=
  s.powered = true ∧ s.gap = 0 ∧
    ∀ j e, (s.line ln).cursor < j → (s.line ln).pollList[j]? = some e → s.passedAfter p e.station = true

/-- R13: the next snapshot of its line leaves a station's record as it is: the image and the poll list in use both name
it, its kind is the one it has counted for, and it is not outside the battery poll mask (R12). -/
def State.staysListed (s : State) (st : StationNo) : Prop :=
  ((s.line (stationLine st)).pollList.any (PollEntry.names st) = true) ∧
    ((s.image.pollEntries (stationLine st)).any (PollEntry.names st) = true) ∧
    ∀ r, s.stations[st.1] = some r → r.counted = r.kind ∧
      ¬(s.supply.state = .battery ∧ inMask s.image.batteryMask r.zone.1 = false)

/-! ### Lamp items (R14, R94) -/

/-- R14: between `s` and `t` an item for a tag has been offered to the lamp list of every polled zone reader of the zone,
and no other lamp list has changed. -/
def State.ItemOffered (s t : State) (i : LampItem) (z : Zone) : Prop :=
  ∀ (st : StationNo) (r : StationRec), s.stations[st.1] = some r →
    t.stations[st.1].map StationRec.lamps = some
      (if r.zone = z ∧ ∃ e ∈ (s.line (stationLine st)).pollList, e.station = st ∧ e.kind = .zoneReader then
        addLampItem i r.lamps
      else r.lamps)

/-- R94: the zone of a tag's item: that of its roster record, or else the given one. -/
def State.ItemZone (s : State) (tag : Tag) (other z : Zone) : Prop :=
  (∀ r, s.miner tag = some r → z = r.zone) ∧ (s.miner tag = none → z = other)

/-! ### Roster records -/

/-- A roster record without its open call field, which the Call Queue keeps (R75). -/
def RosterRec.bare (r : RosterRec) : RosterRec := { r with openCall := none }

/-! ### Requests, responses and notices -/

/-- R156: the request `f`, of the row `row`, stands at the head of the port's queue and passes the four generic
checks: its body has its size, the phase serves it, and the part is neither in HOLDUP nor DORMANT; no CHECK_CLEAR of the
port and no FULL_RESET is under way. -/
structure State.Serves (s : State) (p : PortId) (row : ReqRow) (f : Frame) : Prop where
  up : (s.port p).state = .up
  head : (s.port p).requests.head? = some f
  row : rowOf f = some row
  size : bodySizeOk f = true
  phase : s.supply.phase = .running ∨ servedUnconfigured f = true
  holdup : s.supply.state ≠ .holdup
  dormant : s.supply.state ≠ .dormant
  reset : s.supply.resetPending = none
  waiting : s.waiting p = false

/-- The port has answered `f` with a result, after every response it made before. -/
def State.Answers (s t : State) (p : PortId) (f : Frame) (res : Result) (d : Detail) : Prop :=
  (s.port p).responses ++ [{ kind := responseKind f.kind, tag := f.tag, result := res, detail := d }]
    <+: (t.port p).responses

/-- R159: the notice has been sent to the port, ahead of any other notice of the command. -/
def State.Sends (s t : State) (p : PortId) (n : Notice) : Prop :=
  ((s.port p).push n).notices <+: (t.port p).notices

/-- R76, R66, R69: the roster holds at most 256 records, one for a tag, and none for the two tags that name no miner. -/
def rosterOk (rs : List RosterRec) : Prop :=
  rs.length ≤ 256 ∧ (rs.map RosterRec.tag).Nodup ∧ ∀ r ∈ rs, validTag r.tag = true

/-- The law of the roster, and of the rosters that the store and a copy being written hold for a warm start. -/
def State.RosterLaw (s : State) : Prop :=
  rosterOk s.roster.records ∧ (∀ d, s.supply.store.data = some d → rosterOk d.records) ∧
    ∀ d n, s.supply.save = .writing d n → rosterOk d.records

/-- R104: a run lies in its direction of travel, its end at its current segment or at most 3 segments ahead of it, which
makes it at most 4 segments long. -/
def runOk (d : Direction) (r : Run) : Prop :=
  match d with
  | .inbye => r.cur.1 ≤ r.last.1 ∧ r.last.1 ≤ r.cur.1 + 3
  | .outbye => r.last.1 ≤ r.cur.1 ∧ r.cur.1 ≤ r.last.1 + 3

/-- R97, 6.2: the segments that a table of holders gives to a truck are exactly those of its run; a truck that is
UNKNOWN has no run, and one that is not has its identity in the image. -/
def roadOwned (img : Image) (holder : SegNo → Option TruckNo) (trucks : TruckNo → TruckRec) : Prop :=
  (∀ (t : TruckNo) (r : Run), (trucks t).run = some r → runOk (trucks t).dir r) ∧
  (∀ t : TruckNo, (trucks t).state = .unknown → (trucks t).run = none) ∧
  (∀ t : TruckNo, (trucks t).state ≠ .unknown → (img.identity t).isSome = true) ∧
  ∀ (k : SegNo) (t : TruckNo),
    holder k = some t ↔ ∃ r, (trucks t).run = some r ∧ k ∈ runSegs (trucks t).dir r

/-- The same of a set of retained items. -/
def Saved.roadOwned (d : Saved) : Prop :=
  Machine.roadOwned (d.image.getD Image.default) (fun k => d.holders[k.1]) (fun t => d.trucks[t.1])

/-- The law of the road in the live tables, and in those that the store and a copy being written hold. -/
def State.RoadLaw (s : State) : Prop :=
  roadOwned s.image (fun k => s.segments[k.1].holder) (fun t => s.trucks[t.1]) ∧
  (∀ d, s.supply.store.data = some d → d.roadOwned) ∧ ∀ d n, s.supply.save = .writing d n → d.roadOwned

end Sys2Proof.Machine
end

