-- ==== Sys2Proof/WellFormed.lean ====
section
/-!
DEFINITION. The well-formed commands: those a sender of the KS46 can send. The meanings answer for every command; what
they make of an ill-formed one is what the manual makes of the same bytes.
-/
namespace Sys2Proof

open Machine

/-- A whole reply frame (12.2): the marker, the length L, and 6 + L bytes in all. -/
def replyFrameOk (bytes : List Byte) : Bool :=
  bytes.getD 0 0 == marker && bytes.length == byteAt bytes 1 + 6

/-- A whole client-port frame (12.1): the marker, the length L, and 7 + L bytes in all. -/
def portFrameOk (bytes : List Byte) : Bool :=
  bytes.getD 0 0 == marker && bytes.length == be16 bytes 1 + 7

/-- R6, R152: a reply or a frame that has been taken is whole; R69, R81: a roster tag and a call number are in range. -/
def Instr.wellFormed : Instr → Bool
  | .replyTaken _ bytes => replyFrameOk bytes
  | .frameTaken _ bytes => portFrameOk bytes
  | .unseenAdvance tag => validTag tag
  | .callAgeAdvance number => decide (1 ≤ number ∧ number ≤ 255)
  | _ => true

/-- The request row of a command, and none for an event. -/
def Instr.row : Instr → Option ReqRow
  | .read _ => some .read
  | .findTag _ => some .findTag
  | .setTime _ => some .setTime
  | .keepalive _ => some .keepalive
  | .ackAlarm _ => some .ackAlarm
  | .resetTripZone _ => some .resetTripZone
  | .resetTripAll _ => some .resetTripAll
  | .resetTripOutput _ => some .resetTripOutput
  | .forceTrip _ => some .forceTrip
  | .takeCall _ => some .takeCall
  | .releaseCall _ => some .releaseCall
  | .closeCall _ => some .closeCall
  | .declare _ => some .declare
  | .standDown _ => some .standDown
  | .blockSegment _ => some .blockSegment
  | .openSegment _ => some .openSegment
  | .clearTruck _ => some .clearTruck
  | .calStart _ => some .calStart
  | .editOpen _ => some .editOpen
  | .editWrite _ => some .editWrite
  | .editCommit _ => some .editCommit
  | .editCancel _ => some .editCancel
  | .checkClear _ => some .checkClear
  | .fullReset _ => some .fullReset
  | _ => none

/-- The client port a command comes from, or acts on. -/
def Instr.port : Instr → Option PortId
  | .byteGapTimeout p | .frameTaken p _ | .supervisionTimerExpiry p | .noticeTransmitted p | .read p | .findTag p
  | .setTime p | .keepalive p | .ackAlarm p | .resetTripZone p | .resetTripAll p | .resetTripOutput p | .forceTrip p
  | .takeCall p | .releaseCall p | .closeCall p | .declare p | .standDown p | .blockSegment p | .openSegment p
  | .clearTruck p | .calStart p | .editOpen p | .editWrite p | .editCommit p | .editCancel p | .checkClear p
  | .fullReset p | .frameByteArrives p _ => some p
  | _ => none

end Sys2Proof
end

