-- ==== Sys2Proof/Certificates/Slice0/Obligations.lean ====
section
/-!
DEFINITION. The statements for the provers. A statement of an effect concludes that `exec` answers a next state and says
what that state holds; `State.SameBut` says what it leaves alone, and every area outside its list is unchanged.
-/

open Sys2Proof Sys2Proof.Machine

/-! ### The step and the commands -/

/-- The command at the front of the queue is executed with the queue's rest (the block's form of a step). On an empty
queue one tick of the Section Clock passes and nothing else changes. DESIGN CHOICE, log 1: the manual has no queue. -/
def Obligations.StepTakesFront : Prop :=
  (∀ (c : Instr) (rest : List Instr) (s : State), s.pending = c :: rest → step s = exec c { s with pending := rest }) ∧
  (∀ s : State, s.pending = [] → step s = .next { s with tick := s.tick + 1 })

/-- A command of a timer, a poll or a supply stage that has not come due changes nothing: nothing is there for it to act on,
or the time of the running timer has not passed, or the condition it waits for does not hold yet (log 7; a response that
has not gone out, log 8). Bytes that
reach a port before the start has left RESTORE, or in DORMANT, are discarded (R161). A request row of the table changes
nothing unless its request stands at the head of the port's queue (log 6) and the port serves requests: it is UP (R154),
waits for no CHECK_CLEAR of its own (R156), and the part is not DORMANT (log 28) and not about to restart (log 25). -/
def Obligations.UndueChangesNothing : Prop :=
  (∀ s : State,
     (∀ ln, (s.line ln).state ≠ .gap ∨ (s.line ln).gapStart = none ∨
        (∃ g, (s.line ln).gapStart = some g ∧ (s.supply.state = .mains → s.tick * 10 < g * 10 + s.image.cycleGap) ∧
          (s.supply.state = .battery → s.tick * 10 < g * 10 + s.image.batteryGap)) →
       exec (.gapEnd ln) s = .next s) ∧
     (∀ ln bytes, (s.line ln).poll = none →
       exec (.replyTaken ln bytes) s = .next s ∧ exec (.replyTimeout ln) s = .next s) ∧
     (∀ ln, (s.line ln).slot = none ∨ (∃ c, (s.line ln).slot = some c ∧ s.tick < c.startTick + 6000) →
       exec (.calTimeout ln) s = .next s) ∧
     (∀ pt, s.points[pt.1].flags.stale = false ∨ s.points[pt.1].staleTrip = true ∨ (s.image.point pt).failSafe = false ∨
        (∃ k, s.points[pt.1].staleTick = some k ∧ s.tick < k + (s.image.point pt).staleLimit * 100) →
       exec (.staleLimitExpiry pt) s = .next s) ∧
     (∀ tag, s.miner tag = none ∨ s.supply.phase ≠ .running ∨ s.supply.state = .holdup ∨ s.supply.state = .dormant ∨
        (∃ r, s.miner tag = some r ∧ s.tick < r.unseenFrom + 100) →
       exec (.unseenAdvance tag) s = .next s) ∧
     (∀ n, s.call n = none ∨ s.supply.state = .holdup ∨ s.supply.state = .dormant ∨
        (∃ c, s.call n = some c ∧ s.tick < c.ageFrom + 100) →
       exec (.callAgeAdvance n) s = .next s) ∧
     (∀ t, s.trucks[t.1].state ≠ .active ∨ s.tick < s.trucks[t.1].heardTick + s.image.truckLost * 100 →
       exec (.truckLossTimerExpiry t) s = .next s) ∧
     (∀ p, (s.port p).state = .down ∨ s.supply.state = .holdup ∨ s.supply.state = .dormant ∨
        s.tick < (s.port p).supervised + s.image.supervision * 100 →
       exec (.supervisionTimerExpiry p) s = .next s) ∧
     (∀ p, (s.port p).notices = [] ∨ s.supply.state = .dormant → exec (.noticeTransmitted p) s = .next s) ∧
     (∀ p bytes b, s.supply.phase = .selfTest ∨ s.supply.phase = .restore ∨ s.supply.state = .dormant →
       exec (.frameTaken p bytes) s = .next s ∧ exec (.frameByteArrives p b) s = .next s ∧
         exec (.byteGapTimeout p) s = .next s) ∧
     (∀ p, (s.port p).assembly = [] → exec (.byteGapTimeout p) s = .next s) ∧
     (s.settings.edit = none ∨ (∃ e, s.settings.edit = some e ∧ s.tick < e.timer + 12000) →
       exec .editExpired s = .next s) ∧
     (s.supply.phase ≠ .running ∨ s.tick < s.monitor.periodFrom + s.monitor.period * 100 →
       exec .integrityPassStart s = .next s) ∧
     (s.monitor.pass = none → exec .integrityPassComplete s = .next s) ∧
     (s.clock.stopped = true ∨ s.tick < s.clock.from_ + 100 → exec .clockSecond s = .next s) ∧
     (s.supply.state ≠ .holdup ∨ s.supply.save ≠ .quiet ∨ (∃ ln, (s.line ln).state ≠ .stopped) →
       exec .saveCopy s = .next s) ∧
     ((∀ d lost, s.supply.save ≠ .writing d lost) → exec .saveComplete s = .next s) ∧
     (∀ failed, s.supply.phase ≠ .selfTest → exec (.selfTestComplete failed) s = .next s) ∧
     (s.supply.phase ≠ .restore → exec .restoreComplete s = .next s) ∧
     (s.supply.resetPending = none ∨ (∃ p, s.supply.resetPending = some p ∧ (s.port p).held ≠ []) →
       exec .fullResetColdStart s = .next s)) ∧
  (∀ (c : Instr) (row : ReqRow) (p : PortId) (s : State), c.row = some row → c.port = some p →
     (s.port p).state = .down ∨ (s.port p).requests = [] ∨ s.waiting p = true ∨ s.supply.state = .dormant
       ∨ s.supply.resetPending.isSome = true ∨ (∃ f, (s.port p).requests.head? = some f ∧ rowOf f ≠ some row) →
     exec c s = .next s)

/-! ### Reset and the laws of the device -/

/-- What the reset state holds of the cold values of R18, R39, R62, R79, R96, R121, R136, R146, R149, R162 and R170. -/
def Obligations.ResetValues : Prop :=
  (∀ ln, (State.reset.line ln).state = .idle ∧ (State.reset.line ln).pollList = [] ∧ (State.reset.line ln).slot = none
    ∧ (State.reset.line ln).unmapped = 0) ∧
  (∀ st : StationNo, State.reset.stations[st.1] = none) ∧
  (∀ pt : PointNo, State.reset.points[pt.1].s = none ∧ State.reset.points[pt.1].levels.level = .none
    ∧ State.reset.points[pt.1].staleTrip = false) ∧
  (∀ z : Zone, State.reset.zones[z.1].level = .none ∧ State.reset.zones[z.1].latch = false) ∧
  State.reset.alarms = [] ∧
  (∀ k : OutNo, State.reset.trips[k.1].isOpen = true ∧ State.reset.trips[k.1].forced = false
    ∧ State.reset.trips[k.1].faultHold = false ∧ State.reset.signals[k.1].on = false) ∧
  State.reset.roster.records = [] ∧ State.reset.roster.unaccounted = 0 ∧
  State.reset.calls.calls = [] ∧ State.reset.calls.nextNumber = 1 ∧
  (∀ k : SegNo, State.reset.segments[k.1].holder = none ∧ State.reset.segments[k.1].blocked = false) ∧
  (∀ t : TruckNo, State.reset.trucks[t.1].state = .unknown ∧ State.reset.trucks[t.1].run = none) ∧
  (∀ n : RefugeNo, State.reset.refuges[n.1].door = .unknown ∧ State.reset.refuges[n.1].pattern = .off) ∧
  State.reset.withdrawal = { state := .normal, since := 0, cause := none } ∧
  (∀ n : EntryNo, State.reset.entries[n.1].active = false ∧ State.reset.entries[n.1].fired = 0) ∧
  (∀ p, (State.reset.port p).state = .down ∧ (State.reset.port p).requests = [] ∧ (State.reset.port p).notices = []) ∧
  State.reset.settings.active = none ∧ State.reset.settings.reference = none ∧ State.reset.settings.edit = none ∧
  State.reset.monitor.passes = 0 ∧ State.reset.monitor.rolling = 0 ∧ State.reset.monitor.published = none ∧
  State.reset.monitor.fault = false ∧
  State.reset.supply.phase = .selfTest ∧ State.reset.clock.seconds = 0 ∧ State.reset.clock.unset = true

/-- The reset state holds every law that the invariants below carry through a step. -/
def Obligations.ResetKeepsLaws : Prop :=
  State.reset.OutputLaws ∧ State.reset.HolderLaw ∧ State.reset.RosterLaw ∧ State.reset.RoadLaw ∧
    State.reset.BlockLaw ∧ State.reset.AlarmLaw ∧ State.reset.GasLaw ∧ State.reset.CallLaw ∧ State.reset.MusterLaw ∧
    State.reset.StartLaw ∧ State.reset.WithdrawalLaw ∧ State.reset.EditLaw

/-- R59, R60, R147, R149, R150: from every state whose outputs agree with their conditions, every step leaves outputs that
agree with theirs. R113, R138, R142: an entry stands in the holders of an output and in the INTERLOCK set of a segment
exactly while it is ACTIVE with an action that names it, and only an enabled entry is ACTIVE. -/
def Obligations.OutputLawsKept : Prop :=
  (∀ s t : State, s.OutputLaws → step s = .next t → t.OutputLaws) ∧
  ∀ s t : State, s.HolderLaw → step s = .next t → t.HolderLaw

/-- R63's law of the device: at most 256 records and one for any tag, in the roster and in every retained copy of it. -/
def Obligations.RosterLawKept : Prop :=
  ∀ s t : State, s.RosterLaw → step s = .next t → t.RosterLaw

/-- R97, R104: a truck holds exactly the segments of its run, which is at most 4 segments from its current segment on in its
direction of travel, and no segment has two holders. -/
def Obligations.RoadLawKept : Prop :=
  ∀ s t : State, s.RoadLaw → step s = .next t → t.RoadLaw

/-- R115's law of the device: a BLOCKED segment is held by no truck, or only by the truck whose current segment it is. -/
def Obligations.BlockLawKept : Prop :=
  ∀ s t : State, s.RoadLaw → s.GasLaw → s.BlockLaw → step s = .next t → t.BlockLaw

/-- R53's law of the device: the list holds an ACTIVE record for a zone and level exactly while the zone's level is at
or above it, and never two records for one pair. -/
def Obligations.AlarmLawKept : Prop :=
  ∀ s t : State, s.AlarmLaw → step s = .next t → t.AlarmLaw

/-- R55, R112: a zone at TRIP or above has its latch set, and the segments of a zone carry GAS exactly while its latch is
set. -/
def Obligations.GasLawKept : Prop :=
  ∀ s t : State, s.GasLaw → step s = .next t → t.GasLaw

/-- R80, R81, R88, R93: the call queue keeps its order, its capacity and one open call for a tag; no two calls share a
number, the OFFERED calls are those of the window, and every TAKEN call names a port that is UP. -/
def Obligations.CallLawKept : Prop :=
  ∀ s t : State, s.CallLaw → step s = .next t → t.CallLaw

/-- R76, R125, R126, R127: the unaccounted count is that of the PRESENT and MISSING records during WITHDRAW and 0
otherwise; every refuge's occupants are the records IN_REFUGE that name it, and its flags and beacon pattern follow.
R132: a zone at WITHDRAW means WITHDRAW, and a SEALED door means not NORMAL. 10.2: no calibration is in flight while an
edit is open. R1, R39, R136, R161: before RUNNING nothing is polled, no point has a value and every refuge's door is
UNKNOWN, and no port is UP until the start has left RESTORE. -/
def Obligations.MusterLawKept : Prop :=
  (∀ s t : State, s.MusterLaw → step s = .next t → t.MusterLaw) ∧
  (∀ s t : State, s.StartLaw → s.WithdrawalLaw → step s = .next t → t.WithdrawalLaw) ∧
  (∀ s t : State, s.EditLaw → step s = .next t → t.EditLaw) ∧
  ∀ s t : State, s.StartLaw → step s = .next t → t.StartLaw

/-- R144: a chain of raises holds at most two changes of the withdrawal state. The model's `raiseN` lets a raise and the
raises that it causes make as many changes as its fuel, one for each (log 29): with a fuel of 2, or of any number above 2,
it does what `State.raise` does. -/
def Obligations.RaiseChainEnds : Prop :=
  ∀ (k : Nat) (w : WState) (c : Cause) (s : State), s.raiseN (2 + k) w c = s.raise w c

/-! ### Frames on the wire -/

/-- 12.1, R152: a written client-port frame, whatever follows it, is read as that frame and no more. -/
def Obligations.PortFrameRead : Prop :=
  ∀ (f : Frame) (rest : List Byte), f.body.length ≤ maxBody →
    headOf (portFrame f ++ rest) = .complete f (portFrame f).length

/-- 12.2, R7, R175: a written reply of each kind is good at its own station and read back whole. R7: a reply that is good
carries the polled station's address and kind, a correct CRC-16, and no more items than its kind allows. -/
def Obligations.ReplyRead : Prop :=
  (∀ (st : StationNo) (b : ReplyBody), b.fits → goodReply st b.kind (replyFrame st b) = some b) ∧
  (∀ (st : StationNo) (k : StationKind) (bytes : List Byte) (b : ReplyBody), goodReply st k bytes = some b →
     b.kind = k ∧ byteAt bytes 2 = stationAddr st ∧ byteAt bytes 3 = k.code ∧
     crc16 ((bytes.drop 1).take (3 + byteAt bytes 1)) = BitVec.ofNat 16 (be16 bytes (4 + byteAt bytes 1)) ∧
     match b with
     | .sensorHead _ _ channels => channels.length ≤ 4 ∧ byteAt bytes 1 = 6 + 4 * channels.length
     | .zoneReader sightings => sightings.length ≤ 8 ∧ byteAt bytes 1 = 1 + 4 * sightings.length
     | .roadBeacon reports => reports.length ≤ 2 ∧ byteAt bytes 1 = 1 + 9 * reports.length
     | .refugePanel .. => byteAt bytes 1 = 2)

/-! ### Readings and levels -/

/-- R20: v1 of a sample. R21: DRIFT is set or cleared by each sample, and the tolerance alters nothing else of it. -/
def Obligations.LineariseAndDrift : Prop :=
  ∀ (cfg : PointCfg) (t : CompTable) (temp : Option Int) (raw : Nat) (p : PointRt),
    let q := pipeline cfg t temp raw p
    (cfg.zero ≤ raw → q.v1 = some ((raw - cfg.zero) * cfg.span / 4096)) ∧
    (raw < cfg.zero → q.v1 = some 0) ∧ (cfg.span = 0 → q.v1 = some 0) ∧
    (q.flags.drift = true ↔ raw < cfg.zero ∧ cfg.driftTol < cfg.zero - raw) ∧
    ∀ tol : Nat, let q' := pipeline { cfg with driftTol := tol } t temp raw p
      (tol = 0 → (q'.flags.drift = true ↔ raw < cfg.zero)) ∧
      { q' with flags := { q'.flags with drift := q.flags.drift } } = q

/-- R27, R22: v2 is the product rounded to nearest and clamped to full scale; OVER_RANGE is set by the clamp and by a
count of 4095. R29, R30: a point with no s, or a re-seed pending, has no rise; otherwise the rise is the change of s in
the dangerous direction. No sample leaves a re-seed pending. -/
def Obligations.CompensateAndRise : Prop :=
  (∀ (cfg : PointCfg) (t : CompTable) (temp : Option Int) (raw : Nat) (p : PointRt) (v1 factor : Nat),
     (pipeline cfg t temp raw p).v1 = some v1 → (pipeline cfg t temp raw p).factor = some factor →
     (pipeline cfg t temp raw p).v2 = some (min ((v1 * factor + 512) / 1024) cfg.kind.fullScale) ∧
     ((pipeline cfg t temp raw p).flags.overRange = true ↔
       raw = 4095 ∨ cfg.kind.fullScale < (v1 * factor + 512) / 1024)) ∧
  (∀ (cfg : PointCfg) (t : CompTable) (temp : Option Int) (raw : Nat) (p : PointRt),
     let q := pipeline cfg t temp raw p
     q.reseed = false ∧
     (p.s = none ∨ p.reseed = true → q.rise = none) ∧
     (∀ old, p.s = some old → p.reseed = false → ∃ new, q.s = some new ∧
       q.rise = some (if cfg.kind.rising then new - old else old - new)))

/-- R23 to R25: where the table gives a factor, it lies among the factors of the table's cells, for a table as R166 lets it
pass: 8 and 4 points strictly ascending. R26: where it gives none, the sample is DEGRADED and the factor is 1.000. -/
def Obligations.FactorWithinCells : Prop :=
  (∀ (t : CompTable) (temp : Option Int) (v1 f lo hi : Nat),
    t.ts.length = 8 → t.cs.length = 4 → t.ts.Pairwise (· < ·) → t.cs.Pairwise (· < ·) →
    (∀ c ∈ t.cells, ∀ x, c = some x → lo ≤ x ∧ x ≤ hi) → tableFactor t temp v1 = some f → lo ≤ f ∧ f ≤ hi) ∧
  ∀ (cfg : PointCfg) (t : CompTable) (temp : Option Int) (raw : Nat) (p : PointRt),
    let q := pipeline cfg t temp raw p
    let f := tableFactor t temp (linearise raw cfg.zero cfg.span)
    q.factor = some (f.getD 1024) ∧ (q.flags.degraded = true ↔ f = none)

/-- R28: s is taken from v2 when it is absent or a re-seed is pending; otherwise it moves by the step, which is truncated
towards zero and is one unit where it would be 0. With a weight of 1 to 16 the new s lies between the old s and v2, and
is at v2 for a weight of 16; s stays within full scale; a run of equal v2 brings s to v2 in at most |v2 − s| samples,
where it stays. -/
def Obligations.SmoothingApproaches : Prop :=
  (∀ (cfg : PointCfg) (t : CompTable) (temp : Option Int) (raw : Nat) (p : PointRt),
     let q := pipeline cfg t temp raw p
     (p.s = none ∨ p.reseed = true → q.s = q.v2 ∧ q.reseed = false) ∧
     (∀ old, cfg.weight ≤ 16 → p.s = some old → p.reseed = false → ∃ new v2, q.s = some new ∧ q.v2 = some v2 ∧
       let step : Int := (((v2 : Int) - old) * cfg.weight).tdiv 16
       (new : Int) = old + (if step ≠ 0 then step else if old < v2 then 1 else if v2 < old then -1 else 0)) ∧
     (cfg.weight ≤ 16 → (∀ old, p.s = some old → old ≤ cfg.kind.fullScale) →
       ∃ new, q.s = some new ∧ new ≤ cfg.kind.fullScale)) ∧
  (∀ s v2 w : Nat, 1 ≤ w → w ≤ 16 →
     min s v2 ≤ smooth s v2 w ∧ smooth s v2 w ≤ max s v2 ∧ (w = 16 → smooth s v2 w = v2)) ∧
  (∀ (cfg : PointCfg) (t : CompTable) (p : PointRt) (samples : List (Option Int × Nat)) (old v2 : Nat),
     1 ≤ cfg.weight → cfg.weight ≤ 16 → p.s = some old → p.reseed = false →
     (∀ x ∈ samples, (pipeline cfg t x.1 x.2 p).v2 = some v2) → (v2 - old) + (old - v2) ≤ samples.length →
     (samples.foldl (fun q x => pipeline cfg t x.1 x.2 q) p).s = some v2)

/-- R40, R41: what a sample makes of a level depends on that level alone, and a level without a threshold is IDLE. R41, R42,
R44: a sample that is not beyond the threshold leaves an IDLE or PENDING level IDLE, and one outside the clear band a
QUALIFIED or CLEARING level QUALIFIED. R42, R43: a level that `n` samples running find beyond its threshold is QUALIFIED
exactly when the required dwell is at most `n`; that is the dwell of the table's last entry whose min_rise is at or below
the rise of the first of them, an absent rise counting as 0. R44: a QUALIFIED level that `n` samples running find in its
clear band is IDLE exactly when clear_dwell is at most `n`, and is in force until then. -/
def Obligations.DwellsCount : Prop :=
  ∀ (cfg : PointCfg) (table : List (Nat × Nat)) (g : Grade) (l : LevelStates),
    (∀ (s : Nat) (rise : Option Nat) (l' : LevelStates),
      l'.of g = l.of g → (sampleLevels cfg table s rise l').of g = (sampleLevels cfg table s rise l).of g) ∧
    (cfg.threshold g = none → ∀ s rise, (sampleLevels cfg table s rise l).of g = .idle) ∧
    ∀ thr, cfg.threshold g = some thr →
      let beyond := fun s : Nat => if cfg.kind.rising then thr ≤ s else s ≤ thr
      let inBand := fun s : Nat => if cfg.kind.rising then s + cfg.hysteresis < thr else thr + cfg.hysteresis < s
      (∀ s rise, ¬ beyond s → l.of g = .idle ∨ (∃ n d, l.of g = .pending n d) →
        (sampleLevels cfg table s rise l).of g = .idle) ∧
      (∀ s rise, ¬ inBand s → l.of g = .qualified ∨ (∃ n, l.of g = .clearing n) →
        (sampleLevels cfg table s rise l).of g = .qualified) ∧
      ∀ (x : Nat × Option Nat) (xs : List (Nat × Option Nat)),
        let n := xs.length + 1
        let t := (x :: xs).foldl (fun l y => sampleLevels cfg table y.1 y.2 l) l
        (l.of g = .idle → (∀ y ∈ x :: xs, beyond y.1) → ∀ (i m dwell : Nat), table[i]? = some (m, dwell) →
          m ≤ x.2.getD 0 → (∀ j e, i < j → table[j]? = some e → x.2.getD 0 < e.1) → 1 ≤ dwell →
          (t.of g = .qualified ↔ dwell ≤ n) ∧ (n < dwell → t.of g = .pending n dwell)) ∧
        (l.of g = .qualified → (∀ y ∈ x :: xs, inBand y.1) → 1 ≤ cfg.clearDwell →
          (t.of g = .idle ↔ cfg.clearDwell ≤ n) ∧
          (n < cfg.clearDwell → t.of g = .clearing n ∧ (t.of g).inForce = true))

/-- R50, R51, R55: after a recomputation the zone stands at the level its points give, its latch is set at TRIP or above, its
alarm law holds if it held before, and no other zone has changed. -/
def Obligations.ZoneRecomputed : Prop :=
  ∀ (z : Zone) (s : State), s.AlarmLawOf z →
    (Level.trip.rank ≤ s.zones[z.1].level.rank → s.zones[z.1].latch = true) →
    let t := s.recomputeZone z
    t.zones[z.1].level = s.zoneLevelNow z ∧ t.AlarmLawOf z ∧
    (Level.trip.rank ≤ t.zones[z.1].level.rank → t.zones[z.1].latch = true) ∧
    (s.zones[z.1].latch = true → t.zones[z.1] = { s.zones[z.1] with level := s.zoneLevelNow z }) ∧
    (∀ y : Zone, y ≠ z → t.zones[y.1] = s.zones[y.1]) ∧ State.SameBut zoneAreas s t

/-! ### The field lines -/

/-- GAP_END (R2, R3, R5): a line whose gap has lasted the gap of the present supply state takes the snapshot and walks its
poll list to the first station that is not SKIPPED; the request it sends is assembled from the present state. R5, R14 to
R16, R127: what a request so assembled carries: to a head the zero command for the channel of the line's calibration when
that is of this station, to a reader the first 8 items of its lamp list, to a beacon the demands as they stand, with the
identities, of the first 2 trucks in delivery order whose last beacon it is, to a panel the pattern of its refuge (OFF
where a commit has left it none, log 34), and to each nothing of the other three. R13, R12: at the snapshot a station of the line that the image no longer names loses its
record; one whose kind has changed since the last is as at a cold start; one off the new list is UNPOLLED with misses 0 and
no lamp items; one on it and off the battery poll mask, on BATTERY, is SKIPPED with misses 0; one new on the list is
UNPOLLED, and any other keeps its record, with misses 0 if it is SKIPPED. The lamp lists are said where no entry has a CALL action. A LOST station that
leaves LOST so is reported, as UNPOLLED where its record has left. -/
def Obligations.GapEndBeginsPass : Prop :=
  (∀ (ln : LineNo) (s : State) (g : Tick), (s.line ln).state = .gap → (s.line ln).gapStart = some g →
    (s.supply.state = .mains ∧ g * 10 + s.image.cycleGap ≤ s.tick * 10) ∨
      (s.supply.state = .battery ∧ g * 10 + s.image.batteryGap ≤ s.tick * 10) →
    ∃ t, exec (.gapEnd ln) s = .next t ∧ t = ((s.snapshot ln).pollNext ln).finish ∧
      (t.line ln).pollList = s.image.pollEntries ln ∧ t.WalkFrom ln 0 ∧ t.RequestNow ln ∧
      (∀ st : StationNo, stationLine st = ln →
        let listed : Bool := (s.line ln).pollList.any (PollEntry.names st)
        let next : Bool := (s.image.pollEntries ln).any (PollEntry.names st)
        let want : Option StationRec := s.stations[st.1].bind fun r =>
          let fresh := if r.counted = r.kind then r else { r with
            counted := r.kind, state := .unpolled, misses := 0, replies := 0, bad := 0, lastReply := none, lamps := [] }
          if (s.image.station st).kind = none then none
          else if next = false then some { fresh with state := .unpolled, misses := 0, lamps := [] }
          else if s.supply.state = .battery ∧ inMask s.image.batteryMask r.zone.1 = false then
            some { fresh with state := .skipped, misses := 0 }
          else some (if listed = false then { fresh with state := .unpolled }
            else if fresh.state = .skipped then { fresh with misses := 0 } else fresh)
        t.stations[st.1].map StationRec.bare = want.map StationRec.bare ∧
        ((∀ e w, (s.image.entry e).action ≠ .call w) → t.stations[st.1] = want)) ∧
      (∀ st : StationNo, stationLine st ≠ ln →
        t.stations[st.1].map StationRec.bare = s.stations[st.1].map StationRec.bare) ∧
      (∀ l, l ≠ ln → (t.line l).poll = (s.line l).poll ∧ (t.line l).cursor = (s.line l).cursor
        ∧ (t.line l).state = (s.line l).state ∧ (t.line l).pollList = (s.line l).pollList) ∧
      State.SameBut (.requests :: .responses :: fieldAreas) s t) ∧
  (∀ (ln : LineNo) (s : State), s.snapshot ln =
    ((List.finRange 62).filter fun st => decide (stationLine st = ln)).foldl
      (fun u st => u.snapStation (s.line ln).pollList (s.image.pollEntries ln) st)
      (s.updLine ln fun l => { l with pollList := s.image.pollEntries ln, cursor := 0 })) ∧
  (∀ (old new : List PollEntry) (st : StationNo) (s : State) (r : StationRec) (x : StationState),
    s.stations[st.1] = some r → r.state = .lost → x ≠ .lost →
    let t := s.snapStation old new st
    (t.stations[st.1] = none ∧ x = .unpolled) ∨ (∃ r', t.stations[st.1] = some r' ∧ r'.state = x) →
    ∀ q, s.Sends t q (.station st x none)) ∧
  ∀ (e : PollEntry) (s : State),
    let p := s.assemble e
    let due := (s.delivery.filter fun k => decide (s.trucks[k.1].lastBeacon = some e.station)).take 2
    p.station = e.station ∧ p.kind = e.kind ∧ p.dueSkip = false ∧
    (∀ ch : Channel, p.zero = some ch ↔ e.kind = .sensorHead ∧
      ∃ c, (s.line (stationLine e.station)).slot = some c ∧ c.station = e.station ∧ c.channel = ch) ∧
    (e.kind ≠ .zoneReader → p.lamps = []) ∧
    (e.kind = .zoneReader → ∀ r, s.stations[e.station.1] = some r → p.lamps = r.lamps.take 8) ∧
    (e.kind ≠ .roadBeacon → p.demands = []) ∧
    (e.kind = .roadBeacon →
      p.demands.map CarriedDemand.truck =
        due.filter (fun k => (s.image.identity k).isSome && s.trucks[k.1].demand.isSome) ∧
      ∀ d ∈ p.demands, s.image.identity d.truck = some d.identity ∧ s.trucks[d.truck.1].demand = some d.demand.kind ∧
        d.demand.cap = s.trucks[d.truck.1].cap ∧ d.demand.runEnd = s.trucks[d.truck.1].run.map Run.last) ∧
    (e.kind ≠ .refugePanel → p.beacon = none) ∧
    (e.kind = .refugePanel →
      ((∀ n, s.image.panel n ≠ some e.station) → p.beacon = some .off) ∧
      ∀ n : RefugeNo, s.image.panel n = some e.station → (∀ m, m.1 < n.1 → s.image.panel m ≠ some e.station) →
        p.beacon = some s.refuges[n.1].pattern)

/-- REPLY_TAKEN of a good reply (R8, R9): the station is ONLINE, or SKIPPED when it came due in this poll (R12), with misses
0, the reply counter advanced and the reply timed; what the request carried is delivered (R14, R15; two demands that have
both changed in flight keep their order, log 39), the content is handed on in reply order, and the poll ends. R9: a head's
channel reports are taken in order and then its calibration result; each sighting of a reader is taken with the subtype and
the zone of the reader's record, and then its press, for a tag that names a miner; each truck report of a beacon is taken,
and the TRUCK_LOST_ANY entries are evaluated after it where it changes their answer (log 47); a panel's reply goes to the
refuge whose panel it is (to none, log 34). Where the end of the poll begins the next pass at once (R3), what is said of the stations holds of those that its snapshot leaves
as they are (R13). A channel report (R19, R31): without a point it is an unmapped item; during a calibration it is no
sample, and is not counted as rejected whatever its status (log 43); otherwise one with a FAULT status is counted as
rejected, and any other is a sample, which passes the pipeline, is taken into the levels unless they are frozen (R46),
ends the stale TRIP flag (R49), and is handed to the zone and to the POINT_BEYOND entries. A calibration result (R37)
writes the zero, or fails with RESULT_RANGE. A panel's reply (R123) gives the refuge its flags and its door. -/
def Obligations.GoodReplyHeard : Prop :=
  (∀ (ln : LineNo) (bytes : List Byte) (s : State) (p : Poll) (b : ReplyBody) (r : StationRec),
    (s.line ln).poll = some p → goodReply p.station p.kind bytes = some b → s.stations[p.station.1] = some r →
    ∃ t, exec (.replyTaken ln bytes) s = .next t ∧
      t = (((((s.heardFrom p.station).deliver p).takeContent p.station b).endPoll ln).finish) ∧
      (¬ s.turnsOver ln p ∨ s.staysListed p.station → ∃ r', t.stations[p.station.1] = some r' ∧
        r'.state = (if p.dueSkip then .skipped else .online) ∧ r'.misses = 0 ∧ r'.replies = (r.replies + 1) % 256 ∧
        r'.bad = r.bad ∧ r'.lastReply = some s.now ∧ r'.kind = r.kind ∧ r'.zone = r.zone) ∧
      (∀ st : StationNo, st ≠ p.station → ¬ s.turnsOver ln p ∨ stationLine st ≠ ln →
        t.stations[st.1].map StationRec.bare = s.stations[st.1].map StationRec.bare) ∧
      State.SameBut (.requests :: replyAreas) s t) ∧
  (∀ (p : Poll) (s : State), (p.demands.map CarriedDemand.truck).Nodup →
    let t := s.deliver p
    (∀ st : StationNo, t.stations[st.1].map StationRec.lamps = s.stations[st.1].map fun r =>
      if st = p.station then r.lamps.filter (fun i => !p.lamps.contains i) else r.lamps) ∧
    t.delivery = s.delivery.filter (fun k => decide (k ∉ p.demands.map CarriedDemand.truck)) ++
      (p.demands.filter fun d => decide (d.truck ∈ s.delivery ∧ s.trucks[d.truck.1].view ≠ some d.demand)).map
        CarriedDemand.truck ∧
    State.SameBut [.lamps, .delivery] s t) ∧
  (∀ (st : StationNo) (temp : Option Int) (c : ChannelReport) (s : State),
    let t := s.channelReport st temp c
    let ln := stationLine st
    (s.image.pointAt st c.channel = none →
      t.line ln = { s.line ln with unmapped := satInc max16 (s.line ln).unmapped } ∧
      (∀ l, l ≠ ln → t.line l = s.line l) ∧ State.SameBut [.lines] s t) ∧
    ∀ pt : PointNo, s.image.pointAt st c.channel = some pt →
      let cfg := s.image.point pt
      let raw := min c.raw 4095
      let p : PointRt := { s.points[pt.1] with lastRaw := some raw, lastTemp := temp }
      (∀ q : PointNo, q ≠ pt → t.points[q.1] = s.points[q.1]) ∧
      (p.flags.cal = true → t.points[pt.1] = p ∧ State.SameBut [.points] s t) ∧
      (p.flags.cal = false → c.ok = false →
        t.points[pt.1] = { p with rejected := satInc max16 p.rejected } ∧ State.SameBut [.points] s t) ∧
      (p.flags.cal = false → c.ok = true →
        let q := pipeline cfg (s.image.comp cfg.kind) temp raw p
        t.points[pt.1] = { q with
          lastSample := some s.now, staleTrip := false
          levels := if p.flags.stale || p.flags.suspended then p.levels
            else sampleLevels cfg (s.image.dwellTable cfg.kind) (q.s.getD 0) q.rise p.levels } ∧
        t.zones[cfg.zone.1].level = t.zoneLevelNow cfg.zone ∧
        (∀ y : Zone, y ≠ cfg.zone → t.zones[y.1] = s.zones[y.1]) ∧
        (∀ (n : EntryNo) (v : Nat) (ge : Bool), (s.image.entry n).enabled = true →
          (s.image.entry n).condition = .pointBeyond pt v ge → s.entries[n.1].rebuilding = false →
          t.entries[n.1].active = t.conditionHolds (.pointBeyond pt v ge)) ∧
        State.SameBut (.points :: zoneAreas) s t)) ∧
  (∀ (st : StationNo) (count : Nat) (s : State),
    let t := s.calResult st count
    let ln := stationLine st
    ((∀ c, (s.line ln).slot = some c → c.station ≠ st) →
      t.line ln = { s.line ln with unmapped := satInc max16 (s.line ln).unmapped } ∧
      (∀ l, l ≠ ln → t.line l = s.line l) ∧ State.SameBut [.lines] s t) ∧
    ∀ c, (s.line ln).slot = some c → c.station = st →
      t.line ln = { s.line ln with slot := none } ∧ (∀ l, l ≠ ln → t.line l = s.line l) ∧
      t.points[c.point.1] = { s.points[c.point.1] with flags := { s.points[c.point.1].flags with cal := false } } ∧
      (∀ q : PointNo, q ≠ c.point → t.points[q.1] = s.points[q.1]) ∧
      (count ≤ 1023 →
        t.settings = { s.settings with
          active := some (s.image.writeZero c.point count), reference := some (s.image.writeZero c.point count).crc } ∧
        ((s.image.points.getD c.point.1 []).length = 24 →
          t.image.point c.point = { s.image.point c.point with zero := count } ∧
          ∀ q : PointNo, q ≠ c.point → t.image.point q = s.image.point q) ∧
        t.monitor = { s.monitor with pass := none } ∧
        (∀ q, s.Sends t q (.calDone c.point (s.image.point c.point).zero count)) ∧
        State.SameBut [.lines, .points, .settings, .monitor, .responses, .notices] s t) ∧
      (1023 < count →
        (∀ q, s.Sends t q (.calFailed c.point .resultRange)) ∧ State.SameBut [.lines, .points, .notices] s t)) ∧
  (∀ (st : StationNo) (s : State),
    (∀ temp result channels, s.takeContent st (.sensorHead temp result channels) =
      let u := channels.foldl (fun u c => u.channelReport st temp c) s
      match result with
      | some count => u.calResult st count
      | none => u) ∧
    (∀ sightings r, s.stations[st.1] = some r → s.takeContent st (.zoneReader sightings) =
      sightings.foldl (fun u g =>
        let v := u.sight g.tag r.subtype r.zone
        if g.tag = 0x000000#24 ∨ g.tag = 0xFFFFFF#24 then v else v.takePress g.tag r.zone g.press) s) ∧
    (∀ reports, s.takeContent st (.roadBeacon reports) =
      reports.foldl (fun u r =>
        let v := u.truckReport st r
        if (∃ k : TruckNo, v.trucks[k.1].state = .lost) ↔ ∃ k : TruckNo, u.trucks[k.1].state = .lost then v
        else v.evalWhere Condition.watchesTrucks) s) ∧
    ∀ code airLow batteryLow,
      ((∀ n, s.image.panel n ≠ some st) → s.takeContent st (.refugePanel code airLow batteryLow) = s) ∧
      ∀ n : RefugeNo, s.image.panel n = some st → (∀ m, m.1 < n.1 → s.image.panel m ≠ some st) →
        s.takeContent st (.refugePanel code airLow batteryLow) = s.panelReply n code airLow batteryLow) ∧
  ∀ (n : RefugeNo) (code : Nat) (airLow batteryLow : Bool) (s : State),
    let t := s.panelReply n code airLow batteryLow
    let door : Door := match code with
      | 1 => .opened
      | 2 => .closed
      | 3 => .isSealed
      | _ => .unknown
    t.refuges[n.1].door = door ∧ t.refuges[n.1].airLow = airLow ∧ t.refuges[n.1].batteryLow = batteryLow ∧
    t.refuges[n.1].doorFaults =
      (if door = .unknown then satInc max16 s.refuges[n.1].doorFaults else s.refuges[n.1].doorFaults) ∧
    t.refuges[n.1].doorSince = (if door = s.refuges[n.1].door then s.refuges[n.1].doorSince else some s.now) ∧
    (∀ m : RefugeNo, m ≠ n → t.refuges[m.1].door = s.refuges[m.1].door ∧ t.refuges[m.1].airLow = s.refuges[m.1].airLow
      ∧ t.refuges[m.1].batteryLow = s.refuges[m.1].batteryLow ∧ t.refuges[m.1].doorFaults = s.refuges[m.1].doorFaults) ∧
    (door = .isSealed → s.refuges[n.1].door ≠ .isSealed → s.supply.phase = .running →
      t.withdrawal.state ≠ .normal) ∧
    (∀ (e : EntryNo) (d : Door), (s.image.entry e).enabled = true → (s.image.entry e).condition = .doorIs n d →
      s.entries[e.1].rebuilding = false → s.refuges[n.1].door ≠ door →
      t.entries[e.1].active = decide (door = d)) ∧
    State.SameBut chainAreas s t

/-- REPLY_TIMEOUT, and REPLY_TAKEN of a bad reply (R7, R10): a miss. The station is MISSED below miss_limit and LOST at
it, its loss is reported, its notice going ahead of the others of the command (log 5), and the points of a station that
becomes LOST are STALE (R32). Where the end of the poll begins the next pass at once (R3), what is said of the stations
holds of those that its snapshot leaves as they are (R13). -/
def Obligations.MissCounted : Prop :=
  ∀ (ln : LineNo) (c : Instr) (s : State) (p : Poll) (r : StationRec),
    (s.line ln).poll = some p → s.stations[p.station.1] = some r →
    c = .replyTimeout ln ∨ (∃ bytes, c = .replyTaken ln bytes ∧ goodReply p.station p.kind bytes = none) →
    let limit := s.image.missLimit
    let n := if r.state = .lost then limit else min (r.misses + 1) limit
    ∃ t, exec c s = .next t ∧
      (¬ s.turnsOver ln p ∨ s.staysListed p.station → ∃ r', t.stations[p.station.1] = some r' ∧
        (p.dueSkip = true → r'.state = .skipped ∧ r'.misses = 0) ∧
        (p.dueSkip = false → r'.misses = n ∧ r'.state = if n < limit then .missed else .lost) ∧
        r'.replies = r.replies ∧ r'.lastReply = r.lastReply ∧
        r'.bad = (if c = .replyTimeout ln then r.bad else satInc max16 r.bad) ∧
        (p.dueSkip = false → r.state ≠ .lost → ¬ n < limit →
          ∀ pt, (s.image.point pt).station = some p.station → t.points[pt.1].flags.stale = true)) ∧
      (r.state ≠ .lost → ¬ n < limit → ∀ q, s.Sends t q (.station p.station .lost (some n))) ∧
      (∀ st : StationNo, st ≠ p.station → ¬ s.turnsOver ln p ∨ stationLine st ≠ ln →
        t.stations[st.1].map StationRec.bare = s.stations[st.1].map StationRec.bare) ∧
      State.SameBut (.requests :: .responses :: fieldAreas) s t

/-- R1, R2, R4, R5: when a poll ends the line walks on from the place after its cursor, on MAINS and on BATTERY; in HOLDUP it
stops. R3: where that ends the pass and the gap is 0, the next pass begins at once from a fresh snapshot (a pass that polls
no station is followed by GAP, log 22). The request that the line then has in flight is assembled from the present state (what it carries: O22).
The other line's poll is untouched. -/
def Obligations.PollEndMovesOn : Prop :=
  ∀ (ln : LineNo) (c : Instr) (s : State) (p : Poll), (s.line ln).poll = some p →
    c = .replyTimeout ln ∨ (∃ bytes, c = .replyTaken ln bytes) →
    ∃ t, exec c s = .next t ∧
      (s.turnsOver ln p → (t.line ln).pollList = s.image.pollEntries ln ∧ t.WalkFrom ln 0) ∧
      (¬ s.turnsOver ln p → (t.line ln).pollList = (s.line ln).pollList) ∧
      (s.supply.state = .mains ∨ s.supply.state = .battery →
        (¬ s.turnsOver ln p → t.WalkFrom ln ((s.line ln).cursor + 1)) ∧ t.RequestNow ln) ∧
      (s.supply.state = .holdup → (t.line ln).state = .stopped ∧ (t.line ln).poll = none ∧ (t.line ln).gapStart = none) ∧
      ∀ l, l ≠ ln → (t.line l).poll = (s.line l).poll ∧ (t.line l).cursor = (s.line l).cursor
        ∧ (t.line l).state = (s.line l).state ∧ (t.line l).pollList = (s.line l).pollList

/-- STALE_LIMIT_EXPIRY (R48, R50, R55): a fail-safe point STALE for its stale_limit sets its stale TRIP flag, and its zone
stands at TRIP or above; a zone that rose to it has its latch set. -/
def Obligations.StaleLimitTrips : Prop :=
  ∀ (pt : PointNo) (s : State) (k : Tick), (s.image.point pt).station.isSome = true →
    (s.image.point pt).failSafe = true → s.points[pt.1].flags.stale = true → s.points[pt.1].staleTrip = false →
    s.points[pt.1].staleTick = some k → k + (s.image.point pt).staleLimit * 100 ≤ s.tick →
    let z := (s.image.point pt).zone
    ∃ t, exec (.staleLimitExpiry pt) s = .next t ∧
      t.points[pt.1] = { s.points[pt.1] with staleTrip := true } ∧
      (∀ q : PointNo, q ≠ pt → t.points[q.1] = s.points[q.1]) ∧
      t.zones[z.1].level = t.zoneLevelNow z ∧ Level.trip.rank ≤ t.zones[z.1].level.rank ∧
      (s.zones[z.1].level.rank < Level.trip.rank → t.zones[z.1].latch = true) ∧
      (∀ y : Zone, y ≠ z → t.zones[y.1] = s.zones[y.1]) ∧
      State.SameBut (.points :: .requests :: .responses :: zoneAreas) s t

/-! ### The other timers -/

/-- UNSEEN_ADVANCE (R70 to R72): the record's unseen advances by one second; unless the advance changes the withdrawal
state through the Interlock Table, a PRESENT record at the missing limit is MISSING and an EXITED one at the linger,
outside WITHDRAW, has left; every other record keeps its state. -/
def Obligations.UnseenAdvances : Prop :=
  ∀ (tag : Tag) (s : State) (r : RosterRec), (s.roster.records.map RosterRec.tag).Nodup → s.miner tag = some r →
    s.supply.phase = .running → s.supply.state = .mains ∨ s.supply.state = .battery → r.unseenFrom + 100 ≤ s.tick →
    let u := satInc max16 r.unseen
    let limit := if s.withdrawal.state = .withdraw then s.image.missingWithdraw else s.image.missingNormal
    ∃ t, exec (.unseenAdvance tag) s = .next t ∧
      (t.withdrawal.state = s.withdrawal.state →
        (r.state = .exited ∧ s.withdrawal.state ≠ .withdraw ∧ s.image.exitLinger ≤ u → t.miner tag = none) ∧
        (¬(r.state = .exited ∧ s.withdrawal.state ≠ .withdraw ∧ s.image.exitLinger ≤ u) →
          ∃ r', t.miner tag = some r' ∧ r'.unseen = u ∧ r'.unseenFrom = r.unseenFrom + 100 ∧ r'.zone = r.zone ∧
            r'.state = if r.state = .present ∧ limit ≤ u then .missing else r.state) ∧
        ∀ other, other ≠ tag → (t.miner other).map RosterRec.state = (s.miner other).map RosterRec.state) ∧
      State.SameBut (.requests :: .responses :: chainAreas) s t

/-- CALL_AGE_ADVANCE (R86): the call's age advances by one second; a ROUTINE call that is not TAKEN and has reached the
escalation time is URGENT. -/
def Obligations.CallAges : Prop :=
  ∀ (n : Nat) (s : State) (c : Call), (s.calls.calls.map Call.number).Nodup → s.call n = some c →
    s.supply.state = .mains ∨ s.supply.state = .battery → c.ageFrom + 100 ≤ s.tick →
    ∃ t c', exec (.callAgeAdvance n) s = .next t ∧ t.call n = some c' ∧ c'.age = satInc max16 c.age ∧
      c'.ageFrom = c.ageFrom + 100 ∧
      c'.kind = (if c.kind = .routine ∧ c.isTaken = false ∧ s.image.escalation ≤ satInc max16 c.age then .urgent
        else c.kind) ∧
      c'.tag = c.tag ∧ c'.zone = c.zone ∧ c'.raised = c.raised ∧ c'.order = c.order ∧
      (∀ m, m ≠ n → (t.call m).map Call.kind = (s.call m).map Call.kind ∧
        (t.call m).map Call.age = (s.call m).map Call.age) ∧
      State.SameBut (.calls :: endAreas) s t

/-- TRUCK_LOSS_TIMER_EXPIRY (R110, R107): the truck is LOST, its demand is STOP, or ENGINE_STOP where its current segment
carries GAS, and every segment it still holds is UNVERIFIED. Where no entry acts on TRUCK_LOST_ANY, every segment keeps
its holder, the truck keeps its run, and no other truck changes. -/
def Obligations.TruckLost : Prop :=
  ∀ (tr : TruckNo) (s : State), s.trucks[tr.1].state = .active →
    s.trucks[tr.1].heardTick + s.image.truckLost * 100 ≤ s.tick →
    ∃ t, exec (.truckLossTimerExpiry tr) s = .next t ∧ t.trucks[tr.1].state = .lost ∧ t.trucks[tr.1].cap = 0 ∧
      t.trucks[tr.1].demand = some (match s.trucks[tr.1].run with
        | some r => if s.segments[r.cur.1].gas then .engineStop else .stop
        | none => .stop) ∧
      t.trucks[tr.1].run.map Run.cur = s.trucks[tr.1].run.map Run.cur ∧
      (∀ k : SegNo, t.segments[k.1].holder = some tr → t.segments[k.1].unverified = true) ∧
      (∀ k : SegNo, t.segments[k.1].gas = s.segments[k.1].gas ∧ t.segments[k.1].manual = s.segments[k.1].manual) ∧
      ((∀ e, (s.image.entry e).condition ≠ .truckLostAny) →
        (∀ k : SegNo, t.segments[k.1].holder = s.segments[k.1].holder) ∧ t.trucks[tr.1].run = s.trucks[tr.1].run ∧
        ∀ j : TruckNo, j ≠ tr → t.trucks[j.1] = s.trucks[j.1]) ∧
      State.SameBut (.requests :: .responses :: chainAreas) s t

/-- EDIT_EXPIRED (R165): 120 s after the last write an open edit closes with its shadow, and every UP port is told.
INTEGRITY_PASS_START (R168): while RUNNING, a pass is in flight once the period has passed, and the next period is
counted from the end of this one; a pass still in flight then goes on and no second one starts (log 12). CLOCK_SECOND
(R158): at every 100th tick the seconds counter advances by 1 and wraps, unless a save has stopped it. -/
def Obligations.TimersAct : Prop :=
  (∀ (s : State) (e : Edit), s.settings.edit = some e → e.timer + 12000 ≤ s.tick →
     ∃ t, exec .editExpired s = .next t ∧ t.settings = { s.settings with edit := none } ∧
       (∀ q, s.Sends t q .settingsEditExpired) ∧ State.SameBut (.settings :: endAreas) s t) ∧
  (∀ s : State, s.supply.phase = .running → s.monitor.periodFrom + s.monitor.period * 100 ≤ s.tick →
     ∃ t, exec .integrityPassStart s = .next t ∧
       t.monitor = { s.monitor with
         pass := some (s.monitor.pass.getD .regular)
         periodFrom := s.monitor.periodFrom + s.monitor.period * 100, period := s.image.integrityPeriod } ∧
       State.SameBut (.monitor :: endAreas) s t) ∧
  (∀ s : State, s.clock.stopped = false → s.clock.from_ + 100 ≤ s.tick →
     ∃ t, exec .clockSecond s = .next t ∧
       t.clock = { s.clock with seconds := (s.clock.seconds + 1) % 4294967296, from_ := s.clock.from_ + 100 } ∧
       State.SameBut (.clock :: endAreas) s t)

/-! ### Sightings, presses and interlock entries -/

/-- A sighting (R65 to R69, R72): of a tag of no miner it is counted as ignored and nothing else changes. Otherwise the
tag's record takes the state the reader's subtype gives, its zone and the present time, or a new record joins the end; a
full roster forgets its oldest EXITED record for it, or counts the overflow; with an exit_linger of 0 an EXITED record
leaves at once outside WITHDRAW. A REFUGE reader in the zone of no refuge is taken as an ORDINARY one (log 19). This is said of a sighting after which no entry has changed the withdrawal state, and of
the open call fields where no entry has a CALL action. R77: during WITHDRAW a change of the figures is sent,
ahead of the other notices of the command (log 5). A new call
(R82, R84, R85) enters below 32; a full queue drops its youngest WAITING call of the lowest kind for a call of a higher
one, and otherwise refuses the new call. A press (R82, R83) raises a new call or the kind of the tag's open call, and one
upon a TAKEN call is acknowledged on the lamp (R94). -/
def Obligations.SightingsAndPresses : Prop :=
  (∀ (tag : Tag) (sub : ReaderSubtype) (z : Zone) (s : State), rosterOk s.roster.records → s.MusterLaw →
    let t := s.sight tag sub z
    let recs := s.roster.records
    let state : MinerState := match sub with
      | .ordinary => .present
      | .exitReader => .exited
      | .refuge => match s.image.refugeOfZone z with
        | some n => .inRefuge n
        | none => .present
    let stays : Bool := !decide (state = .exited ∧ s.withdrawal.state ≠ .withdraw ∧ s.image.exitLinger = 0)
    let added : List RosterRec := if stays then
        [{ tag := tag, state := state, zone := z, entry := s.now, lastSeen := s.now, unseen := 0, unseenFrom := s.tick
           openCall := (s.openCall tag).map Call.number }]
      else []
    let gone : Bool := recs.any fun r => decide (r.state = .exited)
    State.SameBut chainAreas s t ∧
    (tag = 0x000000#24 ∨ tag = 0xFFFFFF#24 →
      t.roster = { s.roster with ignored := satInc max16 s.roster.ignored } ∧ State.SameBut [.roster] s t) ∧
    (tag ≠ 0x000000#24 → tag ≠ 0xFFFFFF#24 → t.withdrawal.state = s.withdrawal.state →
      let known := s.miner tag ≠ none
      let want : List RosterRec :=
        if (s.miner tag).isSome then
          if stays then recs.map fun r => if r.tag = tag then
            { r with state := state, zone := z, lastSeen := s.now, unseen := 0, unseenFrom := s.tick } else r
          else recs.filter fun r => decide (r.tag ≠ tag)
        else if recs.length < 256 then recs ++ added
        else if gone then recs.eraseP (fun r => decide (r.state = .exited)) ++ added
        else recs
      t.roster.records.map RosterRec.bare = want.map RosterRec.bare ∧
      ((∀ e w, (s.image.entry e).action ≠ .call w) → t.roster.records = want) ∧
      (known ∨ recs.length < 256 → t.roster.evictions = s.roster.evictions ∧ t.roster.overflow = s.roster.overflow ∧
        t.roster.full = (s.roster.full && stays)) ∧
      (¬ known → ¬ recs.length < 256 → gone = true → t.roster.evictions = satInc max16 s.roster.evictions ∧
        t.roster.overflow = s.roster.overflow ∧ t.roster.full = false) ∧
      (¬ known → ¬ recs.length < 256 → gone = false → t.roster.overflow = satInc max16 s.roster.overflow ∧
        t.roster.evictions = s.roster.evictions ∧ t.roster.full = true) ∧
      t.roster.ignored = s.roster.ignored ∧
      (s.withdrawal.state = .withdraw → t.musterFigures ≠ s.musterFigures →
        ∀ q, s.Sends t q (.muster t.musterFigures)))) ∧
  (∀ (tag : Option Tag) (z : Zone) (k : CallKind) (s : State), s.CallLaw →
    (∀ x, tag = some x → s.openCall x = none) →
    let t := s.raiseCall tag z k
    let waiting := s.calls.calls.filter fun c => decide (c.state = .waiting)
    let room := s.calls.calls.length < 32
    let lower := ∃ c ∈ waiting, c.kind.rank < k.rank
    t.CallLaw ∧ State.SameBut [.roster, .calls, .lamps, .notices] s t ∧
    t.roster.records.map RosterRec.bare = s.roster.records.map RosterRec.bare ∧
    (room ∨ lower → ∃ c ∈ t.calls.calls, c.order = s.calls.nextOrder ∧ c.tag = tag ∧ c.zone = z ∧ c.kind = k ∧
      c.isTaken = false ∧ c.raised = s.now ∧ c.age = 0 ∧ c.ageFrom = s.tick ∧ t.calls.nextOrder = s.calls.nextOrder + 1 ∧
      (∀ r ∈ t.roster.records, tag = some r.tag → r.openCall = some c.number) ∧ t.calls.refused = s.calls.refused) ∧
    (room → t.calls.calls.length = s.calls.calls.length + 1 ∧ t.calls.dropped = s.calls.dropped ∧ s.SameAt t .lamps ∧
      (s.call s.calls.nextNumber = none → ∃ c ∈ t.calls.calls, c.order = s.calls.nextOrder ∧
        c.number = s.calls.nextNumber) ∧
      ∀ x ∈ s.calls.calls, ∃ y ∈ t.calls.calls, { y with state := x.state, offers := x.offers } = x) ∧
    (¬ room → lower → ∃ d ∈ waiting,
      (∀ c ∈ waiting, d.kind.rank ≤ c.kind.rank ∧ (c.kind = d.kind → c.order ≤ d.order)) ∧
      t.calls.calls.length = s.calls.calls.length ∧ (∀ c ∈ t.calls.calls, c.order ≠ d.order) ∧
      (∀ x ∈ s.calls.calls, x ≠ d → ∃ y ∈ t.calls.calls, { y with state := x.state, offers := x.offers } = x) ∧
      t.calls.dropped = satInc max16 s.calls.dropped ∧ (∀ q, s.Sends t q (.callDropped d.info)) ∧
      (∀ x w, d.tag = some x → s.ItemZone x d.zone w → s.ItemOffered t { tag := x, kind := .busy } w) ∧
      (d.tag = none → s.SameAt t .lamps) ∧ ∀ r ∈ t.roster.records, d.tag = some r.tag → r.openCall = none) ∧
    (¬ room → ¬ lower → t.calls = { s.calls with refused := satInc max16 s.calls.refused } ∧
      (∀ x w, tag = some x → s.ItemZone x z w → s.ItemOffered t { tag := x, kind := .busy } w) ∧
      State.SameBut [.calls, .lamps] s t ∧ (tag = none → s.SameAt t .lamps))) ∧
  ∀ (tag : Tag) (z : Zone) (p : Press) (s : State), s.CallLaw →
    let t := s.takePress tag z p
    let k : CallKind := if p = .held then .emergency else if s.withdrawal.state = .withdraw then .urgent else .routine
    (p = .none → t = s) ∧
    (p ≠ .none → s.openCall tag = none → t = s.raiseCall (some tag) z k) ∧
    ∀ c, p ≠ .none → s.openCall tag = some c →
      t.CallLaw ∧ t.calls.calls.length = s.calls.calls.length ∧ State.SameBut [.calls, .lamps, .notices] s t ∧
      (∃ c', t.call c.number = some c' ∧ c'.kind = (if c.kind.rank < k.rank then k else c.kind) ∧
        { c' with kind := c.kind, state := c.state, offers := c.offers } = c ∧
        ∀ q, c.state = .taken q → c'.state = .taken q ∧ c'.offers = c.offers) ∧
      (¬ c.kind.rank < k.rank → t.calls = s.calls ∧ s.SameAt t .notices) ∧
      (∀ q, c.state = .taken q → c.kind.rank < k.rank → ∀ o, o = q ∨ o ∈ s.offerPorts →
        s.Sends t o (.callTaken { c.info with kind := k } .raised q)) ∧
      (c.isTaken = true → ∀ w, s.ItemZone tag c.zone w → s.ItemOffered t { tag := tag, kind := .acknowledged } w) ∧
      (c.isTaken = false → s.SameAt t .lamps)

/-- Interlock entries (R138, R140 to R143). An evaluation that finds an entry disabled, or ACTIVE in agreement with its
condition, changes nothing. One that finds the condition holding makes the entry ACTIVE, applies its level action, counts
and times the firing, and acts: a RAISE raises the withdrawal state to its target or above, with the entry as its cause
where no other entry raises; a CALL raises an URGENT call without a tag; a NOTICE goes to every UP port. One that finds it
ceased withdraws the entry's own hold and nothing else, and undoes no action. The entries that watch a changed state all
come to agree with their conditions where no entry raises, and the others are left alone. -/
def Obligations.EntriesEvaluated : Prop :=
  (∀ (n : EntryNo) (s : State), s.HolderLaw → s.MusterLaw →
    let c := s.image.entry n
    let e := s.entries[n.1]
    let t := s.evalEntryWith State.raise n
    let mayRaise := s.supply.phase = .running ∨ s.supply.state = .holdup
    t.HolderLaw ∧
    (c.enabled = false ∨ e.active = s.conditionHolds c.condition → t = s) ∧
    (c.enabled = true → e.active = false → s.conditionHolds c.condition = true →
      t.entries[n.1] = { e with active := true, fired := satInc 255 e.fired, lastFired := some s.now } ∧
      State.SameBut chainAreas s t ∧
      (∀ w, c.action = .raise w → mayRaise → w.rank ≤ t.withdrawal.state.rank ∧
        (s.withdrawal.state.rank < w.rank → (∀ m x, m ≠ n → (s.image.entry m).action ≠ .raise x) →
          t.withdrawal = { state := w, since := s.now, cause := some (.interlock n) })) ∧
      (∀ w, c.action = .raise w → ¬ mayRaise ∨ w.rank ≤ s.withdrawal.state.rank →
        State.SameBut [.entries] s t) ∧
      (∀ w, c.action = .call w → t = (s.updEntry n fun e =>
        { e with active := true, fired := satInc 255 e.fired, lastFired := some s.now }).raiseCall none w .urgent) ∧
      (c.action = .notice → (∀ q, s.Sends t q (.interlock n c.condition (satInc 255 e.fired) (some s.now))) ∧
        State.SameBut [.entries, .notices] s t) ∧
      ((∀ w, c.action ≠ .raise w) → t.withdrawal = s.withdrawal ∧
        ∀ m : EntryNo, m ≠ n → t.entries[m.1] = s.entries[m.1])) ∧
    (e.active = true → s.conditionHolds c.condition = false →
      t.entries[n.1] = { e with active := false } ∧ (∀ m : EntryNo, m ≠ n → t.entries[m.1] = s.entries[m.1]) ∧
      State.SameBut [.entries, .tripHolders, .signalHolders, .outputs, .segments, .notices] s t)) ∧
  ∀ (watches : Condition → Bool) (s : State), s.HolderLaw → (∀ e x, (s.image.entry e).action ≠ .raise x) →
    let t := s.evalWhere watches
    t.HolderLaw ∧ t.withdrawal = s.withdrawal ∧
    ∀ n : EntryNo,
      (watches (s.image.entry n).condition = true → (s.image.entry n).enabled = true →
        t.entries[n.1].active = s.conditionHolds (s.image.entry n).condition ∧
        t.entries[n.1].fired = (if s.entries[n.1].active = false ∧
          s.conditionHolds (s.image.entry n).condition = true then satInc 255 s.entries[n.1].fired
          else s.entries[n.1].fired)) ∧
      (watches (s.image.entry n).condition = false → t.entries[n.1] = s.entries[n.1])

/-! ### The client ports -/

/-- FRAME_TAKEN and FRAME_BYTE_ARRIVES (R152, R153, R161): the bytes that complete a frame make a valid frame of it, which
is counted; outside HOLDUP it makes a DOWN port UP and restarts supervision; it joins the request queue of an UP port, or is
an overrun when 4 stand there. Frames ahead of it that spell no request are answered and leave (log 6). -/
def Obligations.FrameJoinsQueue : Prop :=
  ∀ (p : PortId) (c : Instr) (bytes : List Byte) (f : Frame) (s : State),
    c = .frameTaken p bytes ∨ (∃ b, c = .frameByteArrives p b ∧ bytes = [b]) →
    s.supply.phase = .unconfigured ∨ s.supply.phase = .running → s.supply.state ≠ .dormant →
    s.supply.resetPending = none → f.body.length ≤ maxBody → (s.port p).assembly ++ bytes = portFrame f →
    let before := if (s.port p).state = .up then (s.port p).requests else []
    ∃ t, exec c s = .next t ∧ (t.port p).assembly = [] ∧ (t.port p).valid = ((s.port p).valid + 1) % 65536 ∧
      (t.port p).bad = (s.port p).bad ∧
      (s.supply.state ≠ .holdup → (t.port p).state = .up ∧ (t.port p).supervised = s.tick) ∧
      (s.supply.state = .holdup → (t.port p).state = (s.port p).state ∧ (t.port p).supervised = (s.port p).supervised) ∧
      (s.supply.state ≠ .holdup ∨ (s.port p).state = .up →
        (before.length < 4 → (t.port p).overruns = (s.port p).overruns ∧
          ∃ gone, gone ++ (t.port p).requests = before ++ [f] ∧ ∀ g ∈ gone, rowOf g = none) ∧
        (¬ before.length < 4 → (t.port p).overruns = satInc max16 (s.port p).overruns ∧
          ∃ gone, gone ++ (t.port p).requests = before ∧ ∀ g ∈ gone, rowOf g = none)) ∧
      (∀ q, q ≠ p → (t.port q).link = (s.port q).link) ∧
      State.SameBut (.outputs :: .responses :: frameAreas) s t

/-- R152: received bytes that begin with a marker and hold no other, and whose length is past the largest body or whose
CRC is wrong, are one bad frame: it is counted, gets no response, and makes no port UP. The responses and the requests are
as before where no served port has a frame that spells no row at the head of its queue, which the command's end would
answer (log 6). BYTE_GAP_TIMEOUT (R152, log
9): no byte of an incomplete frame stays behind a byte gap, and at least one bad frame is counted. -/
def Obligations.BadFramesCounted : Prop :=
  (∀ (p : PortId) (c : Instr) (bytes : List Byte) (s : State),
     c = .frameTaken p bytes ∨ (∃ b, c = .frameByteArrives p b ∧ bytes = [b]) →
     s.supply.phase = .unconfigured ∨ s.supply.phase = .running → s.supply.state ≠ .dormant →
     s.supply.resetPending = none →
     let a := (s.port p).assembly ++ bytes
     a.head? = some marker → marker ∉ a.tail →
     (3 ≤ a.length ∧ maxBody < be16 a 1) ∨ (be16 a 1 ≤ maxBody ∧ a.length = be16 a 1 + 7 ∧
       crc16 ((a.drop 1).take (4 + be16 a 1)) ≠ BitVec.ofNat 16 (be16 a (5 + be16 a 1))) →
     ∃ t, exec c s = .next t ∧ (t.port p).bad = satInc max16 (s.port p).bad ∧ (t.port p).assembly = [] ∧
       (t.port p).state = (s.port p).state ∧ (t.port p).valid = (s.port p).valid ∧
       (t.port p).supervised = (s.port p).supervised ∧ (∀ q, q ≠ p → (t.port q).link = (s.port q).link) ∧
       ((∀ q f, s.serving q = true → (s.port q).requests.head? = some f → rowOf f ≠ none) →
         State.SameBut [.links, .outputs, .notices] s t) ∧
       State.SameBut (.links :: endAreas) s t) ∧
  (∀ (p : PortId) (s : State), s.supply.phase = .unconfigured ∨ s.supply.phase = .running →
     s.supply.state ≠ .dormant → s.supply.resetPending = none → (s.port p).assembly ≠ [] →
     ∃ t, exec (.byteGapTimeout p) s = .next t ∧ (t.port p).assembly = [] ∧
       ((s.port p).bad < max16 → (s.port p).bad < (t.port p).bad) ∧
       (∀ q, q ≠ p → (t.port q).link = (s.port q).link) ∧ State.SameBut (.outputs :: .responses :: frameAreas) s t)

/-- SUPERVISION_TIMER_EXPIRY (R153, R154, R93, R129): the port is DOWN with empty queues, no call is TAKEN by it, an edit it
held is closed, and the second trunk port to go DOWN raises the section to ALERT. The other ports are told of the port
ahead of the other notices of the command (log 5). -/
def Obligations.SupervisionExpires : Prop :=
  ∀ (p : PortId) (s : State), (s.port p).state = .up → s.supply.state = .mains ∨ s.supply.state = .battery →
    (s.port p).supervised + s.image.supervision * 100 ≤ s.tick →
    ∃ t, exec (.supervisionTimerExpiry p) s = .next t ∧ (t.port p).state = .down ∧ (t.port p).requests = [] ∧
      (t.port p).notices = [] ∧ (∀ c ∈ t.calls.calls, c.state ≠ .taken p) ∧
      (∀ e, t.settings.edit = some e → e.holder ≠ p) ∧
      (∀ q, q ≠ p → (t.port q).state = (s.port q).state ∧ s.Sends t q (.port p false)) ∧
      (s.supply.phase = .running → t.isolated = true → s.isolated = false → WState.alert.rank ≤ t.withdrawal.state.rank) ∧
      State.SameBut downAreas s t

/-- R159, R154: a notice to an UP port takes the sequence, which advances and wraps; it joins the queue below 16 and is
otherwise counted as lost; a DOWN port receives none. Nothing but the ports' notices changes. R156: a response made while
no notice is being sent goes out at once, and one made while a notice is being sent waits for its end. NOTICE_TRANSMITTED
(R159, R156): the notice at the head of the port's queue leaves it, and every response that waited goes out before the
next notice (log 8). -/
def Obligations.NoticesQueueAndLeave : Prop :=
  (∀ (n : Notice) (s : State), State.SameBut [.notices] s (s.notify n) ∧
     ∀ q : PortId,
       ((s.port q).state = .down → (s.notify n).port q = s.port q) ∧
       ((s.port q).state = .up →
         ((s.notify n).port q).nextSeq = ((s.port q).nextSeq + 1) % 65536 ∧
         ((s.port q).notices.length < 16 → ((s.notify n).port q).lost = (s.port q).lost ∧
           ((s.notify n).port q).notices = (s.port q).notices ++ [((s.port q).nextSeq, n)]) ∧
         (16 ≤ (s.port q).notices.length → ((s.notify n).port q).lost = satInc max16 (s.port q).lost ∧
           ((s.notify n).port q).notices = (s.port q).notices))) ∧
  (∀ (p : PortId) (r : Response) (s : State), State.SameBut [.responses] s (s.respond p r) ∧
     ((s.respond p r).port p).responses = (s.port p).responses ++ [r] ∧
     ((s.port p).notices = [] → ((s.respond p r).port p).sent = (s.port p).sent ++ [.response r] ∧
       ((s.respond p r).port p).held = (s.port p).held) ∧
     ((s.port p).notices ≠ [] → ((s.respond p r).port p).sent = (s.port p).sent ∧
       ((s.respond p r).port p).held = (s.port p).held ++ [r]) ∧
     ∀ q, q ≠ p → (s.respond p r).port q = s.port q) ∧
  (∀ (p : PortId) (s : State) (n : Nat × Notice) (rest : List (Nat × Notice)), s.OutputLaws →
     s.supply.state ≠ .dormant → (s.port p).notices = n :: rest →
     ∃ t, exec (.noticeTransmitted p) s = .next t ∧ (t.port p).notices = rest ∧
       ((s.port p).sent ++ .notice n.1 n.2 :: (s.port p).held.map .response <+: (t.port p).sent) ∧
       (t.port p).nextSeq = (s.port p).nextSeq ∧ (t.port p).lost = (s.port p).lost ∧
       (∀ q, q ≠ p → (t.port q).notices = (s.port q).notices) ∧
       State.SameBut [.notices, .requests, .responses] s t)

/-- R156: the four generic checks. A frame whose kind is no request kind is answered MALFORMED with the response kind 0x80,
here as it arrives at an UP port with nothing queued ahead of it. The other three checks of every request row come in
their order; the answered request leaves the queue and changes nothing else, and frames behind it that spell no request
leave with it (log 6). -/
def Obligations.GenericAnswers : Prop :=
  (∀ (p : PortId) (c : Instr) (bytes : List Byte) (f : Frame) (s : State), s.OutputLaws →
    c = .frameTaken p bytes ∨ (∃ b, c = .frameByteArrives p b ∧ bytes = [b]) →
    s.supply.phase = .unconfigured ∨ s.supply.phase = .running → s.supply.state ≠ .dormant →
    s.supply.resetPending = none → f.body.length ≤ maxBody → (s.port p).assembly ++ bytes = portFrame f →
    (s.port p).state = .up → (s.port p).requests = [] → s.waiting p = false → f.kind.toNat = 0 ∨ 0x16 < f.kind.toNat →
    ∃ t, exec c s = .next t ∧ (t.port p).requests = [] ∧
      (s.port p).responses ++ [{ kind := 0x80#8, tag := f.tag, result := .malformed, detail := .none }]
        <+: (t.port p).responses ∧
      State.SameBut [.links, .requests, .responses] s t) ∧
  ∀ (c : Instr) (row : ReqRow) (p : PortId) (f : Frame) (s : State), s.OutputLaws → c.row = some row → c.port = some p →
    (s.port p).state = .up → (s.port p).requests.head? = some f → rowOf f = some row → s.waiting p = false →
    s.supply.state ≠ .dormant → s.supply.resetPending = none →
    let late := s.supply.phase ≠ .running ∧ servedUnconfigured f = false
    (bodySizeOk f = false ∨ late ∨ s.supply.state = .holdup) →
    ∃ t, exec c s = .next t ∧
      s.Answers t p f (if bodySizeOk f = false then .malformed else if late then .notReady else .busy) .none ∧
      (∃ gone, f :: gone ++ (t.port p).requests = (s.port p).requests ∧ ∀ g ∈ gone, rowOf g = none) ∧
      State.SameBut [.requests, .responses] s t

/-! ### Requests that only read -/

/-- READ (R157): the request is answered from the records as they stand and changes nothing else. R157 and the owning rules:
a table number of no table and an index outside its table are MALFORMED; a position at or beyond the end of a list, a
station outside the STATIONS section (also while R13 keeps its record), a point not in use and a truck without identity
are NOT_FOUND; a line, a station, a point, a zone with its contributing points and stale sources, an alarm, a trip output, a roster record, a call, a segment, a truck, both parts of an
interlock entry (R138) and a port are
returned as they stand. FIND_TAG (R63): the record of the tag and its position in entry order, NOT_FOUND, or MALFORMED for
a tag of no miner. SET_TIME (R158) sets the counter and clears CLOCK_UNSET, and the tick runs on; KEEPALIVE (R153) is
answered DONE. -/
def Obligations.ReadingRequests : Prop :=
  (∀ (p : PortId) (f : Frame) (s : State), s.OutputLaws → s.Serves p .read f →
     let a := (s.popRequest p).readTable (byteAt f.body 0) (be16 f.body 1) (byteAt f.body 1) (byteAt f.body 2)
     ∃ t, exec (.read p) s = .next t ∧ s.Answers t p f a.1 a.2 ∧ State.SameBut [.requests, .responses] s t) ∧
  (∀ (s : State) (k hi lo : Nat),
    (∀ n, n = 0 ∨ 19 < n → s.readTable n k hi lo = (.malformed, .none)) ∧
    (∀ n, (n = 5 ∧ 16 ≤ k) ∨ (n = 7 ∧ 8 ≤ k) ∨ (n = 11 ∧ 24 ≤ k) ∨ (n = 12 ∧ 16 ≤ k) ∨ (n = 13 ∧ 4 ≤ k) ∨
        (n = 15 ∧ 24 ≤ k) ∨ (n = 16 ∧ 8 ≤ k) ∨ (n = 18 ∧ 3 ≤ k) ∨ (n = 4 ∧ 96 ≤ k) ∨ (n = 2 ∧ (k = 0 ∨ 2 < k)) ∨
        (n = 3 ∧ (hi = 0 ∨ 2 < hi ∨ lo = 0 ∨ 31 < lo)) →
      s.readTable n k hi lo = (.malformed, .none)) ∧
    (∀ n, (n = 6 ∧ s.alarms.length ≤ k) ∨ (n = 8 ∧ s.roster.records.length ≤ k) ∨ (n = 10 ∧ s.calls.calls.length ≤ k) →
      s.readTable n k hi lo = (.notFound, .none)) ∧
    (∀ ln, k = lineNumber ln → s.readTable 2 k hi lo = (.done, .record (.line (s.line ln).state (s.line ln).pollList
      (s.line ln).cursor (s.line ln).gapStart (s.line ln).slot (s.line ln).unmapped))) ∧
    (1 ≤ hi → hi ≤ 2 → 1 ≤ lo → lo ≤ 31 → ∀ st : StationNo, st.1 = (hi - 1) * 31 + lo - 1 →
      ((s.image.station st).kind = none ∨ s.stations[st.1] = none → s.readTable 3 k hi lo = (.notFound, .none)) ∧
      ∀ r, (s.image.station st).kind ≠ none → s.stations[st.1] = some r → s.readTable 3 k hi lo = (.done, .record (.station st r))) ∧
    (∀ pt : PointNo, pt.1 = k →
      ((s.image.point pt).station = none → s.readTable 4 k hi lo = (.notFound, .none)) ∧
      ((s.image.point pt).station ≠ none → s.readTable 4 k hi lo =
        (.done, .record (.point (s.image.point pt) s.points[pt.1] s.points[pt.1].levels.level)))) ∧
    (∀ z : Zone, z.1 = k → s.readTable 5 k hi lo = (.done, .record (.zone s.zones[z.1]
      ((List.finRange 96).countP fun pt => decide ((s.image.point pt).station ≠ none ∧ (s.image.point pt).zone = z ∧
        s.points[pt.1].flags.suspended = false))
      ((List.finRange 96).filter fun pt => decide ((s.image.point pt).station ≠ none ∧ (s.image.point pt).zone = z ∧
        s.points[pt.1].staleTrip = true))))) ∧
    (∀ r, s.alarms[k]? = some r → s.readTable 6 k hi lo = (.done, .record (.alarm r))) ∧
    (∀ o : OutNo, o.1 = k → s.readTable 7 k hi lo =
      (.done, .record (.tripOutput s.trips[o.1].isOpen s.trips[o.1].forced s.trips[o.1].faultHold (s.tripConds o)))) ∧
    (∀ n : EntryNo, n.1 = k →
      s.readTable 15 k hi lo = (.done, .record (.interlock (s.image.entry n) s.entries[n.1]))) ∧
    (∀ r, s.roster.records[k]? = some r → s.readTable 8 k hi lo = (.done, .record (.roster r))) ∧
    (∀ c, s.calls.calls[k]? = some c → s.readTable 10 k hi lo = (.done, .record (.call c))) ∧
    (∀ g : SegNo, g.1 = k →
      s.readTable 11 k hi lo = (.done, .record (.segment s.segments[g.1] s.segments[g.1].blocked))) ∧
    (∀ t : TruckNo, t.1 = k → (s.image.identity t = none → s.readTable 12 k hi lo = (.notFound, .none)) ∧
      (s.image.identity t ≠ none → s.readTable 12 k hi lo = (.done, .record (.truck s.trucks[t.1] s.road)))) ∧
    ∀ p : PortId, k = (match p with | .a => 0 | .b => 1 | .l => 2) → s.readTable 18 k hi lo =
      (.done, .record (.port { state := (s.port p).state
                               supervision := if (s.port p).state = .up then some (s.port p).supervised else none
                               requests := (s.port p).requests, notices := (s.port p).notices
                               nextSeq := (s.port p).nextSeq, valid := (s.port p).valid, bad := (s.port p).bad
                               overruns := (s.port p).overruns, lost := (s.port p).lost }))) ∧
  (∀ (p : PortId) (f : Frame) (s : State), s.OutputLaws → s.Serves p .findTag f →
     let tag := tagAt f.body 0
     ∃ t, exec (.findTag p) s = .next t ∧
       (tag = 0x000000#24 ∨ tag = 0xFFFFFF#24 → s.Answers t p f .malformed .none) ∧
       (tag ≠ 0x000000#24 → tag ≠ 0xFFFFFF#24 →
         ((∀ r ∈ s.roster.records, r.tag ≠ tag) → s.Answers t p f .notFound .none) ∧
         ∀ i r, s.roster.records[i]? = some r → r.tag = tag →
           (∀ j q, j < i → s.roster.records[j]? = some q → q.tag ≠ tag) → s.Answers t p f .done (.found r i)) ∧
       State.SameBut [.requests, .responses] s t) ∧
  (∀ (p : PortId) (f : Frame) (s : State), s.OutputLaws →
     (s.Serves p .setTime f → ∃ t, exec (.setTime p) s = .next t ∧
       t.clock = { s.clock with seconds := be32 f.body 0, unset := false } ∧ s.Answers t p f .done .none ∧
       State.SameBut [.clock, .outputs, .requests, .responses] s t) ∧
     (s.Serves p .keepalive f → ∃ t, exec (.keepalive p) s = .next t ∧ s.Answers t p f .done .none ∧
       State.SameBut [.requests, .responses] s t))

/-! ### Requests upon alarms and trips -/

/-- ACK_ALARM (R54), by the record for the pair: none is NOT_FOUND, ACTIVE_UNACK becomes ACTIVE_ACKED by the port,
CLEARED_UNACK is removed, ACTIVE_ACKED is ALREADY with its port; each change sends its notice, and no other record
changes. -/
def Obligations.AckAlarm : Prop :=
  ∀ (p : PortId) (f : Frame) (s : State), s.Serves p .ackAlarm f →
    ∃ t, exec (.ackAlarm p) s = .next t ∧ State.SameBut (.alarms :: endAreas) s t ∧
      ((16 ≤ byteAt f.body 0 ∨ byteAt f.body 1 = 0 ∨ 3 < byteAt f.body 1) →
        s.Answers t p f .malformed .none ∧ t.alarms = s.alarms) ∧
      ∀ (z : Zone) (g : Grade), z.1 = byteAt f.body 0 → g.level.rank = byteAt f.body 1 →
        (s.alarm z g = none → s.Answers t p f .notFound .none ∧ t.alarms = s.alarms) ∧
        ∀ r, s.alarm z g = some r →
          (r.state = .activeUnack → s.Answers t p f .done .none ∧
            t.alarms = s.alarms.map (fun x => if x.is z g then { x with state := .activeAcked p } else x) ∧
            ∀ q, s.Sends t q (.alarm z g (some (.activeAcked p)) none none)) ∧
          (r.state = .clearedUnack → s.Answers t p f .done .none ∧
            t.alarms = s.alarms.filter (fun x => !x.is z g) ∧ ∀ q, s.Sends t q (.alarm z g none none none)) ∧
          (∀ q, r.state = .activeAcked q → s.Answers t p f .already (.port q) ∧ t.alarms = s.alarms)

/-- RESET_TRIP naming a zone (R56, R112): the latch is cleared only while the zone is below TRIP, and GAS with it.
The TRIP_LATCH notice goes ahead of the other notices of the command (log 5). RESET_TRIP naming ALL (R57), whatever its
number byte (log 35): every latch whose zone is below TRIP is cleared; DONE when none remains, or PARTIAL with the zones
whose latches were kept. -/
def Obligations.ResetTrips : Prop :=
  (∀ (p : PortId) (f : Frame) (s : State), s.Serves p .resetTripZone f →
     ∃ t, exec (.resetTripZone p) s = .next t ∧ State.SameBut (.requests :: .responses :: latchAreas) s t ∧
       (16 ≤ byteAt f.body 1 → s.Answers t p f .malformed .none ∧ t.zones = s.zones ∧ t.segments = s.segments) ∧
       ∀ z : Zone, z.1 = byteAt f.body 1 →
         (s.zones[z.1].latch = false → s.Answers t p f .already .none ∧ t.zones = s.zones ∧ t.segments = s.segments) ∧
         (s.zones[z.1].latch = true → Level.trip.rank ≤ s.zones[z.1].level.rank →
           s.Answers t p f (.refused .causePersists) .none ∧ t.zones = s.zones ∧ t.segments = s.segments) ∧
         (s.zones[z.1].latch = true → s.zones[z.1].level.rank < Level.trip.rank →
           s.Answers t p f .done .none ∧ t.zones[z.1] = { s.zones[z.1] with latch := false, latchedAt := none } ∧
           (∀ y : Zone, y ≠ z → t.zones[y.1] = s.zones[y.1]) ∧ (∀ q, s.Sends t q (.tripLatch z false)) ∧
           ∀ k : SegNo, t.segments[k.1] =
             if (s.image.segment k).zone = z then { s.segments[k.1] with gas := false } else s.segments[k.1])) ∧
  (∀ (p : PortId) (f : Frame) (s : State), s.Serves p .resetTripAll f →
     let kept := (List.finRange 16).filter fun z => s.zones[z.1].latch && decide (Level.trip.rank ≤ s.zones[z.1].level.rank)
     ∃ t, exec (.resetTripAll p) s = .next t ∧ State.SameBut (.requests :: .responses :: latchAreas) s t ∧
       (kept = [] → s.Answers t p f .done .none) ∧ (kept ≠ [] → s.Answers t p f .partly (.zones kept)) ∧
       (∀ z : Zone, t.zones[z.1].level = s.zones[z.1].level ∧
         t.zones[z.1].latch = (s.zones[z.1].latch && decide (Level.trip.rank ≤ s.zones[z.1].level.rank))) ∧
       ∀ k : OutNo, t.trips[k.1].forced = s.trips[k.1].forced)

/-- FORCE_TRIP, and RESET_TRIP naming an output (R58): the forced flag takes the value asked for, and a forced output
is OPEN, which its notice says. -/
def Obligations.ForceAndUnforce : Prop :=
  ∀ (p : PortId) (f : Frame) (s : State) (c : Instr) (number : Nat) (on : Bool),
    (c = .forceTrip p ∧ s.Serves p .forceTrip f ∧ number = byteAt f.body 0 ∧ on = true) ∨
      (c = .resetTripOutput p ∧ s.Serves p .resetTripOutput f ∧ number = byteAt f.body 1 ∧ on = false) →
    ∃ t, exec c s = .next t ∧ State.SameBut (.forced :: endAreas) s t ∧
      (8 ≤ number → s.Answers t p f .malformed .none ∧ ∀ j : OutNo, t.trips[j.1].forced = s.trips[j.1].forced) ∧
      ∀ k : OutNo, k.1 = number →
        t.trips[k.1].forced = on ∧ (∀ j : OutNo, j ≠ k → t.trips[j.1].forced = s.trips[j.1].forced) ∧
        (on = true → t.trips[k.1].isOpen = true) ∧
        (s.trips[k.1].forced = on → s.Answers t p f .already .none) ∧
        (s.trips[k.1].forced ≠ on → s.Answers t p f .done .none ∧
          ∃ opened, (on = true → opened = true) ∧ ∀ q, s.Sends t q (.tripForce k opened on))

/-! ### Requests upon calls -/

/-- The checks of 5.4 upon the three call requests: 0 is MALFORMED, a number of no call NOT_FOUND, and the queue is
unchanged. RELEASE_CALL (R91, R86): from the taking port the call is WAITING or OFFERED again, URGENT when it is due;
from any other port it is refused. CLOSE_CALL (R92, R75): from the taking port the call leaves the queue and the tag's
open call field with it; from any other port it is refused. The notice of a close names the port that held the call
(log 41). -/
def Obligations.ReleaseAndClose : Prop :=
  (∀ (p : PortId) (f : Frame) (s : State) (c : Instr),
     (c = .takeCall p ∧ s.Serves p .takeCall f) ∨ (c = .releaseCall p ∧ s.Serves p .releaseCall f) ∨
       (c = .closeCall p ∧ s.Serves p .closeCall f) →
     let n := byteAt f.body 0
     n = 0 ∨ s.call n = none →
     ∃ t, exec c s = .next t ∧ s.Answers t p f (if n = 0 then .malformed else .notFound) .none ∧
       State.SameBut endAreas s t) ∧
  (∀ (p : PortId) (f : Frame) (s : State) (c : Call), s.Serves p .releaseCall f → s.CallLaw → byteAt f.body 0 ≠ 0 →
     s.call (byteAt f.body 0) = some c →
     ∃ t, exec (.releaseCall p) s = .next t ∧ State.SameBut (.calls :: endAreas) s t ∧
       (c.state = .taken p → s.Answers t p f .done .none ∧ t.CallLaw ∧
         ∃ c', t.call c.number = some c' ∧ c'.isTaken = false ∧ c'.tag = c.tag ∧ c'.order = c.order ∧ c'.age = c.age ∧
           c'.kind = if c.kind = .routine ∧ s.image.escalation ≤ c.age then .urgent else c.kind) ∧
       (c.state ≠ .taken p → s.Answers t p f (.refused .notHolder) .none ∧ t.calls = s.calls)) ∧
  (∀ (p : PortId) (f : Frame) (s : State) (c : Call), s.Serves p .closeCall f → byteAt f.body 0 ≠ 0 →
     s.call (byteAt f.body 0) = some c →
     ∃ t, exec (.closeCall p) s = .next t ∧ State.SameBut (.roster :: .calls :: endAreas) s t ∧
       (c.state = .taken p → s.Answers t p f .done .none ∧
         t.calls = { s.calls with calls := s.calls.calls.filter fun x => x.number ≠ c.number } ∧
         t.roster = { s.roster with records := (s.roster.records.map fun r =>
           if c.tag = some r.tag then { r with openCall := none } else r) } ∧
         ∀ q ∈ s.offerPorts, q ≠ p → s.Sends t q (.callTaken c.info .closed p)) ∧
       (c.state ≠ .taken p → s.Answers t p f (.refused .notHolder) .none ∧ t.calls = s.calls ∧ t.roster = s.roster))

/-- TAKE_CALL (R90, R88): an OFFERED call becomes TAKEN by the port, and the window is brought up to date; a TAKEN or a
WAITING call stays, with the answer that says so. R94: the taken call's tag has an ACKNOWLEDGED item offered to the readers
of its zone. R14: an item offered to a list of at most 16 items, one for a tag, is on it afterwards: in the place of the
tag's item, or at the end; at most one other item leaves, and only a full list: the oldest BUSY item, or else the oldest. -/
def Obligations.TakeCall : Prop :=
  (∀ (p : PortId) (f : Frame) (s : State) (c : Call), s.Serves p .takeCall f → s.CallLaw → byteAt f.body 0 ≠ 0 →
    s.call (byteAt f.body 0) = some c →
    ∃ t, exec (.takeCall p) s = .next t ∧ State.SameBut (.lamps :: .calls :: endAreas) s t ∧
      (c.state = .offered → s.Answers t p f .done .none ∧ t.CallLaw ∧
        (∃ c', t.call c.number = some c' ∧ c' = { c with state := .taken p }) ∧
        (∀ q ∈ s.offerPorts, q ≠ p → s.Sends t q (.callTaken c.info .taken p)) ∧
        t.calls.calls.map Call.number = s.calls.calls.map Call.number ∧
        (∀ tag z, c.tag = some tag → s.ItemZone tag c.zone z → s.ItemOffered t { tag := tag, kind := .acknowledged } z) ∧
        (c.tag = none → s.SameAt t .lamps)) ∧
      (∀ q, c.state = .taken q → s.Answers t p f .taken (.port q) ∧ t.calls = s.calls ∧ s.SameAt t .lamps) ∧
      (c.state = .waiting → s.Answers t p f (.refused .notOffered) .none ∧ t.calls = s.calls ∧ s.SameAt t .lamps)) ∧
  ∀ (i : LampItem) (l : List LampItem), l.length ≤ 16 → (l.map LampItem.tag).Nodup →
    let m := addLampItem i l
    i ∈ m ∧ m.length ≤ 16 ∧ (m.map LampItem.tag).Nodup ∧
    (i.tag ∈ l.map LampItem.tag → m.map LampItem.tag = l.map LampItem.tag) ∧
    (i.tag ∉ l.map LampItem.tag → m.getLast? = some i ∧ (l.length < 16 → m = l ++ [i]) ∧ m.dropLast.Sublist l ∧
      (l.length = 16 → ∃ x older newer, l = older ++ x :: newer ∧ m = older ++ newer ++ [i] ∧
        (x.kind = .busy ∧ (∀ y ∈ older, y.kind ≠ .busy) ∨ older = [] ∧ ∀ y ∈ l, y.kind ≠ .busy))) ∧
    ∀ x ∈ m, x = i ∨ x ∈ l

/-! ### Requests upon the withdrawal state -/

/-- DECLARE (R130, R128): a state above the present one is raised to at least; without a RAISE action in the table it is
that state, since now, with the port as its cause. At or below the present state it is ALREADY. R118: the entry into
WITHDRAW cuts the run of every INBYE truck to its current segment. -/
def Obligations.DeclareRaises : Prop :=
  ∀ (p : PortId) (f : Frame) (s : State), s.Serves p .declare f →
    let n := byteAt f.body 0
    ∃ t, exec (.declare p) s = .next t ∧ State.SameBut (.requests :: .responses :: chainAreas) s t ∧
      (n = 0 ∨ 2 < n → s.Answers t p f .malformed .none ∧ t.withdrawal = s.withdrawal) ∧
      (∀ w : WState, w ≠ .normal → w.rank = n →
        (s.withdrawal.state.rank < n → s.Answers t p f .done .none ∧ n ≤ t.withdrawal.state.rank ∧
          ((∀ e x, (s.image.entry e).action ≠ .raise x) →
            t.withdrawal = { state := w, since := s.now, cause := some (.declared p) })) ∧
        (n ≤ s.withdrawal.state.rank →
          s.Answers t p f .already (.wstate s.withdrawal.state) ∧ t.withdrawal = s.withdrawal)) ∧
      (∀ k : TruckNo, t.trucks[k.1].run.map Run.cur = s.trucks[k.1].run.map Run.cur ∧
        t.trucks[k.1].dir = s.trucks[k.1].dir) ∧
      (s.withdrawal.state ≠ .withdraw → t.withdrawal.state = .withdraw → ∀ (k : TruckNo) (r : Run),
        t.trucks[k.1].run = some r → t.trucks[k.1].dir = .inbye → r.last = r.cur)

/-- STAND_DOWN (R132): it lowers the named state by one step when that is the present state and no cause persists; otherwise
it is answered as its case says and the state stands. -/
def Obligations.StandDownLowers : Prop :=
  ∀ (p : PortId) (f : Frame) (s : State), s.Serves p .standDown f →
    let n := byteAt f.body 0
    ∃ t, exec (.standDown p) s = .next t ∧ State.SameBut (.requests :: .responses :: chainAreas) s t ∧
      (n = 0 ∨ 2 < n → s.Answers t p f .malformed .none ∧ t.withdrawal = s.withdrawal) ∧
      ∀ w : WState, w ≠ .normal → w.rank = n →
        let zones := (List.finRange 16).filter fun z => decide (n + 1 ≤ s.zones[z.1].level.rank)
        let cut := decide (w = .alert) && s.isolated
        let chambers := (List.finRange 4).filter fun r => decide (s.refuges[r.1].door = .isSealed)
        (s.withdrawal.state.rank < n →
          s.Answers t p f .already (.wstate s.withdrawal.state) ∧ t.withdrawal = s.withdrawal) ∧
        (n < s.withdrawal.state.rank →
          s.Answers t p f (.refused .stateChanged) (.wstate s.withdrawal.state) ∧ t.withdrawal = s.withdrawal) ∧
        (s.withdrawal.state = w → zones ≠ [] ∨ cut = true ∨ chambers ≠ [] →
          s.Answers t p f (.refused .causePersists) (.causes zones cut chambers) ∧ t.withdrawal = s.withdrawal) ∧
        (s.withdrawal.state = w → zones = [] → cut = false → chambers = [] →
          s.Answers t p f .done .none ∧
          ((∀ e x, (s.image.entry e).action ≠ .raise x) →
            t.withdrawal = { state := if w = .withdraw then .alert else .normal, since := s.now
                             cause := some (.standDown p) }))

/-! ### Requests upon the road -/

/-- BLOCK_SEGMENT and OPEN_SEGMENT (R114, R115): the MANUAL flag takes the value asked for and no other block reason changes; a
segment that became BLOCKED by it is in no run, unless it is a truck's current segment. -/
def Obligations.BlockAndOpen : Prop :=
  ∀ (p : PortId) (f : Frame) (s : State) (c : Instr) (on : Bool),
    (c = .blockSegment p ∧ s.Serves p .blockSegment f ∧ on = true) ∨
      (c = .openSegment p ∧ s.Serves p .openSegment f ∧ on = false) →
    let n := byteAt f.body 0
    ∃ t, exec c s = .next t ∧
      State.SameBut (.segments :: .trucks :: .delivery :: endAreas) s t ∧
      (24 ≤ n → s.Answers t p f .malformed .none ∧ t.segments = s.segments ∧ t.trucks = s.trucks) ∧
      ∀ k : SegNo, k.1 = n →
        t.segments[k.1].manual = on ∧
        (∀ j : SegNo, t.segments[j.1].gas = s.segments[j.1].gas ∧ t.segments[j.1].interlock = s.segments[j.1].interlock
          ∧ (j ≠ k → t.segments[j.1].manual = s.segments[j.1].manual)) ∧
        (s.segments[k.1].manual = on →
          s.Answers t p f .already .none ∧ t.segments = s.segments ∧ t.trucks = s.trucks) ∧
        (s.segments[k.1].manual ≠ on → s.Answers t p f .done .none ∧
          (on = true → s.segments[k.1].blocked = false → ∀ (tr : TruckNo) (r : Run), t.trucks[tr.1].run = some r →
            k ∈ runSegs t.trucks[tr.1].dir r → k = r.cur))

/-- A truck report (R99 to R109): an unknown identity or a segment above 23 advances its counter and changes nothing else
(log 37). A refused entry records the asked length of the report (log 23), also one of 0 (log 45). A report in a segment of the run
ahead moves the truck there, also out of a segment that carries GAS (log 49). An accepted report makes the truck ACTIVE with the clamped figures of the report; it is placed in its run, enters
the road, or is an intruder; a turn cuts its run; the grant stage adds free segments ahead until the asked length or the
first test that stops it; the demand, the overspeed flag, the delivery order and the notices follow. No other truck's
record and no segment of another truck changes. CLEAR_TRUCK (R111): a LOST truck becomes UNKNOWN, holds no segment and
awaits no delivery, and every other truck and holder is as before; any other truck is left, with the answer its case
gives. -/
def Obligations.TrucksReportedAndCleared : Prop :=
  (∀ (beacon : StationNo) (r : TruckReport) (s : State),
    let t := s.truckReport beacon r
    (s.image.truckOf r.identity = none →
      t = { s with road := { s.road with unknownTrucks := satInc max16 s.road.unknownTrucks } }) ∧
    ∀ k : TruckNo, s.image.truckOf r.identity = some k →
      (24 ≤ r.segment → t = { s with road := { s.road with badReports := satInc max16 s.road.badReports } }) ∧
      ∀ seg : SegNo, seg.1 = r.segment → s.RoadLaw →
        let old := s.trucks[k.1]
        let new := t.trucks[k.1]
        let asked := min r.request 4
        let length := (s.image.segment seg).length
        let others : Bool := decide (s.segments[seg.1].holder ≠ none ∧ s.segments[seg.1].holder ≠ some k)
        let conflict := new.intruded = some seg ∧ others = true ∧
          (old.intruded ≠ some seg ∨ old.intrudedHolder ≠ s.segments[seg.1].holder)
        let start : Option Run := match old.run with
          | some b =>
            let cur := if seg ∈ runSegs old.dir b then seg else b.cur
            some { cur := cur, last := if r.dir = old.dir then b.last else cur }
          | none => if others || s.monitor.fault || s.segments[seg.1].blocked then none else some { cur := seg, last := seg }
        let noted := new.state ≠ old.state ∨ new.demand ≠ old.demand ∨ new.intruded.isSome ≠ old.intruded.isSome ∨
          new.overspeed ≠ old.overspeed
        (new.state = .active ∧ new.reported = some seg ∧ new.position = min r.position length ∧
          new.speed = min r.speed 999 ∧ (new.clamped = true ↔ 999 < r.speed) ∧
          (new.posClamped = true ↔ length < r.position) ∧ new.dir = r.dir ∧ new.lastHeard = some s.now ∧
          new.lastBeacon = some beacon ∧ new.heardTick = s.tick) ∧
        (new.intruded = match old.run with
          | some b => if seg ∈ runSegs old.dir b then none else some seg
          | none => if others then some seg else none) ∧
        (start = none → new.run = none ∧ new.grant.asked = asked ∧ new.grant.outcome = .refused
          (if others then .held else if s.monitor.fault then .settingsFault else .blocked)) ∧
        (∀ b, start = some b → asked = 0 → new.run = some b ∧ new.grant = old.grant) ∧
        (∀ b, start = some b → 1 ≤ asked → ∃ run : Run, new.run = some run ∧ run.cur = b.cur ∧
          runSegs r.dir b <+: runSegs r.dir run ∧
          (runSegs r.dir run).length ≤ max asked (runSegs r.dir b).length ∧
          (∀ g ∈ runSegs r.dir run, g ∉ runSegs r.dir b →
            (s.segments[g.1].holder = none ∨ s.segments[g.1].holder = some k) ∧ s.segments[g.1].blocked = false ∧
            s.monitor.fault = false ∧ s.segments[b.cur.1].gas = false ∧
            ¬(s.withdrawal.state = .withdraw ∧ r.dir = .inbye)) ∧
          new.grant.asked = asked ∧
          (asked ≤ (runSegs r.dir run).length → new.grant.outcome = .full) ∧
          ((runSegs r.dir run).length < asked → new.grant.outcome = .part
            (if s.monitor.fault then .settingsFault
             else if s.segments[b.cur.1].gas then .engineStop
             else match ahead r.dir run.last with
               | none => .roadEnd
               | some g =>
                 if s.withdrawal.state = .withdraw ∧ r.dir = .inbye then .withdraw
                 else if s.segments[g.1].holder ≠ none ∧ s.segments[g.1].holder ≠ some k then .held
                 else .blocked) ∧
            (s.monitor.fault = false → s.segments[b.cur.1].gas = false → ∀ g, ahead r.dir run.last = some g →
              ¬(s.withdrawal.state = .withdraw ∧ r.dir = .inbye) →
              s.segments[g.1].holder = none ∨ s.segments[g.1].holder = some k → s.segments[g.1].blocked = true))) ∧
        (match new.run with
          | none => new.demand = some .stop ∧ new.cap = 0
          | some run =>
            if s.segments[run.cur.1].gas then new.demand = some .engineStop ∧ new.cap = 0
            else if new.intruded.isSome then new.demand = some .stop ∧ new.cap = 0
            else if stoppingDistance s.image new.dir run new.position = 0 then new.demand = some .stop ∧ new.cap = 0
            else new.demand = some .proceed ∧ new.cap = proceedCap s.image new.dir run new.position) ∧
        (new.overspeed = true ↔ new.cap + s.image.overspeedTol < new.speed) ∧
        (∀ j : TruckNo, j ≠ k → t.trucks[j.1] = s.trucks[j.1]) ∧
        (∀ g : SegNo, t.segments[g.1].gas = s.segments[g.1].gas ∧ t.segments[g.1].manual = s.segments[g.1].manual ∧
          t.segments[g.1].interlock = s.segments[g.1].interlock ∧
          ((∃ b, new.run = some b ∧ g ∈ runSegs r.dir b) → t.segments[g.1].holder = some k) ∧
          (¬(∃ b, new.run = some b ∧ g ∈ runSegs r.dir b) → t.segments[g.1].holder =
            if s.segments[g.1].holder = some k then none else s.segments[g.1].holder) ∧
          (s.segments[g.1].holder = some k → old.state ≠ .active → t.segments[g.1].unverified = false)) ∧
        t.delivery = (if new.view = old.view ∨ k ∈ s.delivery then s.delivery else s.delivery ++ [k]) ∧
        (conflict → t.road = { s.road with conflicts := satInc max16 s.road.conflicts } ∧
          ∀ h, s.segments[seg.1].holder = some h →
            ∀ q, s.Sends t q (.roadConflict k seg h s.trucks[h.1].run)) ∧
        (¬ conflict → t.road = s.road ∧
          (noted → ∀ q, s.Sends t q (.truck k new.state new.run new.demand new.cap new.overspeed new.intruded.isSome
            new.clamped new.posClamped)) ∧
          (¬ noted → s.SameAt t .notices)) ∧
        State.SameBut [.trucks, .segments, .delivery, .road, .notices] s t) ∧
  ∀ (p : PortId) (f : Frame) (s : State), s.Serves p .clearTruck f →
    let n := byteAt f.body 0
    ∃ t, exec (.clearTruck p) s = .next t ∧ State.SameBut (.road :: .requests :: .responses :: chainAreas) s t ∧
      (16 ≤ n → s.Answers t p f .malformed .none ∧ t.trucks = s.trucks ∧ t.segments = s.segments) ∧
      ∀ k : TruckNo, k.1 = n →
        (s.image.identity k = none → s.Answers t p f .notFound .none ∧ t.trucks = s.trucks ∧ t.segments = s.segments) ∧
        (s.image.identity k ≠ none →
          (s.trucks[k.1].state = .active →
            s.Answers t p f (.refused .truckActive) .none ∧ t.trucks = s.trucks ∧ t.segments = s.segments) ∧
          (s.trucks[k.1].state = .unknown →
            s.Answers t p f .already .none ∧ t.trucks = s.trucks ∧ t.segments = s.segments) ∧
          (s.trucks[k.1].state = .lost → s.Answers t p f .done .none ∧ t.trucks[k.1].state = .unknown ∧
            t.trucks[k.1].run = none ∧ t.trucks[k.1].demand = none ∧ t.trucks[k.1].intruded = none ∧
            t.delivery = s.delivery.filter (fun j => decide (j ≠ k)) ∧
            (∀ j : TruckNo, j ≠ k → t.trucks[j.1] = s.trucks[j.1]) ∧
            ∀ g : SegNo, t.segments[g.1].gas = s.segments[g.1].gas ∧ t.segments[g.1].manual = s.segments[g.1].manual ∧
              (s.segments[g.1].holder = some k →
                t.segments[g.1].holder = none ∧ t.segments[g.1].unverified = false) ∧
              (s.segments[g.1].holder ≠ some k → t.segments[g.1].holder = s.segments[g.1].holder ∧
                t.segments[g.1].unverified = s.segments[g.1].unverified)))

/-- CAL_START (R35, R36), by the first case that applies. CAL_TIMEOUT (R38): 60 s after its start a calibration fails with
TIMEOUT: the slot is empty, CAL is cleared, the zero is unchanged, and every UP port is told. -/
def Obligations.CalibrationStartsAndTimesOut : Prop :=
  (∀ (p : PortId) (f : Frame) (s : State), s.Serves p .calStart f →
     let n := byteAt f.body 0
     ∃ t, exec (.calStart p) s = .next t ∧ State.SameBut (.lines :: .points :: endAreas) s t ∧
       (96 ≤ n → s.Answers t p f .malformed .none ∧ t.lines = s.lines ∧ t.points = s.points) ∧
       ∀ pt : PointNo, pt.1 = n →
         ((s.image.point pt).station = none → s.Answers t p f .notFound .none ∧ t.lines = s.lines ∧ t.points = s.points) ∧
         ∀ st, (s.image.point pt).station = some st →
           let online := s.stations[st.1].map StationRec.state = some .online
           let tripping := Level.trip.rank ≤ s.points[pt.1].levels.level.rank
           let busy := (s.line (stationLine st)).slot.isSome = true
           (¬ online → s.Answers t p f (.refused .stationNotOnline) .none ∧ t.lines = s.lines ∧ t.points = s.points) ∧
           (online → tripping → s.Answers t p f (.refused .inAlarm) .none ∧ t.lines = s.lines ∧ t.points = s.points) ∧
           (online → ¬ tripping → busy → s.Answers t p f .busy .none ∧ t.lines = s.lines ∧ t.points = s.points) ∧
           (∀ e, online → ¬ tripping → ¬ busy → s.settings.edit = some e →
             s.Answers t p f .held (.port e.holder) ∧ t.lines = s.lines ∧ t.points = s.points) ∧
           (online → ¬ tripping → ¬ busy → s.settings.edit = none → s.Answers t p f .done .none ∧
             t.points[pt.1] = { s.points[pt.1] with flags := { s.points[pt.1].flags with cal := true } } ∧
             (t.line (stationLine st)).slot = some { point := pt, station := st, channel := (s.image.point pt).channel
                                                     start := s.now, startTick := s.tick } ∧
             (∀ q : PointNo, q ≠ pt → t.points[q.1] = s.points[q.1]) ∧
             ∀ l, l ≠ stationLine st → t.line l = s.line l)) ∧
  (∀ (ln : LineNo) (s : State) (c : Calibration), (s.line ln).slot = some c → c.startTick + 6000 ≤ s.tick →
     ∃ t, exec (.calTimeout ln) s = .next t ∧ t.line ln = { s.line ln with slot := none } ∧
       (∀ l, l ≠ ln → t.line l = s.line l) ∧
       t.points[c.point.1] = { s.points[c.point.1] with flags := { s.points[c.point.1].flags with cal := false } } ∧
       (∀ pt : PointNo, pt ≠ c.point → t.points[pt.1] = s.points[pt.1]) ∧
       (∀ q, s.Sends t q (.calFailed c.point .timeout)) ∧
       State.SameBut (.lines :: .points :: endAreas) s t)

/-! ### Requests upon the settings -/

/-- EDIT_OPEN (R164): the shadow is a copy of the active image, or of the default image while that is empty. EDIT_WRITE
and EDIT_CANCEL (R165): a record that does not exist is MALFORMED; a port that is not the holder is refused; the
holder replaces the whole record, or closes the edit. -/
def Obligations.EditRequests : Prop :=
  (∀ (p : PortId) (f : Frame) (s : State), s.Serves p .editOpen f →
     ∃ t, exec (.editOpen p) s = .next t ∧ State.SameBut (.settings :: endAreas) s t ∧
       (∀ e, s.settings.edit = some e → t.settings = s.settings ∧
         (e.holder = p → s.Answers t p f .already .none) ∧ (e.holder ≠ p → s.Answers t p f .held (.port e.holder))) ∧
       (s.settings.edit = none →
         ((s.line .one).slot.isSome = true ∨ (s.line .two).slot.isSome = true →
           s.Answers t p f .busy .none ∧ t.settings = s.settings) ∧
         ((s.line .one).slot = none → (s.line .two).slot = none → s.Answers t p f .done .none ∧
           t.settings = { s.settings with
             edit := some { holder := p, shadow := s.settings.active.getD Image.default, timer := s.tick } }))) ∧
  (∀ (p : PortId) (f : Frame) (s : State),
     (s.Serves p .editWrite f →
       let sec := byteAt f.body 0
       let idx := byteAt f.body 1
       ∃ t, exec (.editWrite p) s = .next t ∧ State.SameBut (.settings :: endAreas) s t ∧
         (recordSize sec idx = none → s.Answers t p f .malformed .none ∧ t.settings = s.settings) ∧
         (recordSize sec idx ≠ none →
           (s.settings.edit = none → s.Answers t p f (.refused .noEdit) .none ∧ t.settings = s.settings) ∧
           ∀ e, s.settings.edit = some e →
             (e.holder ≠ p → s.Answers t p f .held (.port e.holder) ∧ t.settings = s.settings) ∧
             (e.holder = p → s.Answers t p f .done .none ∧ t.settings = { s.settings with
               edit := some { holder := p, shadow := e.shadow.write sec idx (f.body.drop 3), timer := s.tick } }))) ∧
     (s.Serves p .editCancel f →
       ∃ t, exec (.editCancel p) s = .next t ∧ State.SameBut (.settings :: endAreas) s t ∧
         (s.settings.edit = none → s.Answers t p f (.refused .noEdit) .none ∧ t.settings = s.settings) ∧
         ∀ e, s.settings.edit = some e →
           (e.holder ≠ p → s.Answers t p f .held (.port e.holder) ∧ t.settings = s.settings) ∧
           (e.holder = p → s.Answers t p f .done .none ∧ t.settings = { s.settings with edit := none })))

/-- EDIT_COMMIT refused (R165, R166): without an edit, by another port, by the first failing check (named as log 21 has it
where R166 gives no order), or while the road it would change is in use, its ROAD section compared whole (log 14); the edit
stays open with its shadow, and nothing but the answer changes. EDIT_COMMIT that passes (R167): the shadow is the active
image, the reference is its CRC-32, the edit is closed, a pass in flight is abandoned, and the phase is RUNNING. R145: an
entry that the commit changes is ACTIVE exactly when it is enabled and its condition holds in the state the commit leaves,
and no entry still waits for its rebuild. R34: a point taken out of use is cold, one put into use starts cold, and one whose
station, channel or kind has changed awaits a re-seed with no rejected reports; of both, STALE and SUSPENDED follow the
station, said of a commit while RUNNING; the readings of a point that stays in use are kept. R47: a changed threshold,
hysteresis, kind, clear_dwell or dwell table drops the running counts, and a level without a threshold is IDLE. R120: a
truck number without identity has the cold record (log 30); R110: a changed truck_lost that has run out makes its ACTIVE
truck LOST, and every other truck keeps its state. R135: a refuge whose panel has changed has its door UNKNOWN and its
supply flags clear; any other keeps its flags, and its door while its panel's state stands. -/
def Obligations.CommitsRefusedAndTaken : Prop :=
  (∀ (p : PortId) (f : Frame) (s : State), s.OutputLaws → s.Serves p .editCommit f →
    (s.settings.edit = none → ∃ t, exec (.editCommit p) s = .next t ∧ s.Answers t p f (.refused .noEdit) .none ∧
      State.SameBut [.requests, .responses] s t) ∧
    ∀ e, s.settings.edit = some e →
      (e.holder ≠ p → ∃ t, exec (.editCommit p) s = .next t ∧ s.Answers t p f .held (.port e.holder) ∧
        State.SameBut [.requests, .responses] s t) ∧
      (e.holder = p → ∀ sec idx check, e.shadow.firstFailure = some (sec, idx, check) →
        ∃ t, exec (.editCommit p) s = .next t ∧ s.Answers t p f (.refused .invalidSettings) (.invalid sec idx check) ∧
          State.SameBut [.requests, .responses] s t) ∧
      (e.holder = p → e.shadow.firstFailure = none →
        ((e.shadow.road ≠ s.image.road ∧ ∃ k : SegNo, s.segments[k.1].holder ≠ none) ∨
          ∃ k : TruckNo, s.trucks[k.1].state ≠ .unknown ∧ e.shadow.identity k ≠ s.image.identity k) →
        ∃ t, exec (.editCommit p) s = .next t ∧ s.Answers t p f (.refused .roadInUse) .none ∧
          State.SameBut [.requests, .responses] s t)) ∧
  ∀ (p : PortId) (f : Frame) (s : State) (e : Edit), s.Serves p .editCommit f → s.settings.edit = some e →
    e.holder = p → e.shadow.firstFailure = none → s.roadInUse e.shadow = false →
    s.supply.phase = .running ∨ s.supply.phase = .unconfigured →
    ∃ t, exec (.editCommit p) s = .next t ∧
      t.settings = { active := some e.shadow, reference := some e.shadow.crc, edit := none } ∧
      t.supply.phase = .running ∧ t.supply.state = s.supply.state ∧ t.monitor.pass = none ∧
      t.monitor.fault = s.monitor.fault ∧ (s.supply.phase = .running → s.supply = t.supply) ∧
      (∀ n : EntryNo, t.entries[n.1].rebuilding = true → s.entries[n.1].rebuilding = true) ∧
      (∀ n : EntryNo, s.image.entry n ≠ e.shadow.entry n →
        t.entries[n.1].active = ((e.shadow.entry n).enabled && t.conditionHolds (e.shadow.entry n).condition)) ∧
      (∀ pt : PointNo,
        let was := s.image.point pt
        let cfg := e.shadow.point pt
        let a := s.points[pt.1]
        let b := t.points[pt.1]
        let moved := was.station ≠ cfg.station ∨ was.channel ≠ cfg.channel ∨ was.kind ≠ cfg.kind
        (was.station ≠ none → cfg.station = none → b = PointRt.cold) ∧
        (was.station = none → cfg.station ≠ none → s.supply.phase = .running →
          { b with flags := PointRt.cold.flags, staleSince := none, staleTick := none, staleTrip := false }
            = PointRt.cold) ∧
        (was.station ≠ none → cfg.station ≠ none →
          { b with flags := a.flags, reseed := a.reseed, rejected := a.rejected, levels := a.levels
                   staleSince := a.staleSince, staleTick := a.staleTick, staleTrip := a.staleTrip } = a ∧
          { b.flags with cal := a.flags.cal, stale := a.flags.stale, suspended := a.flags.suspended } = a.flags ∧
          (moved → b.reseed = true ∧ b.rejected = 0) ∧
          (¬ moved → b.rejected = a.rejected ∧ (a.reseed = true → b.reseed = true)) ∧
          ∀ g : Grade, b.levels.of g =
            if cfg.threshold g = none then .idle
            else if was.warn ≠ cfg.warn ∨ was.trip ≠ cfg.trip ∨ was.withdraw ≠ cfg.withdraw ∨
                was.hysteresis ≠ cfg.hysteresis ∨ was.kind ≠ cfg.kind ∨ was.clearDwell ≠ cfg.clearDwell ∨
                s.image.dwellTable cfg.kind ≠ e.shadow.dwellTable cfg.kind then
              match a.levels.of g with
              | .pending _ _ => .idle
              | .clearing _ => .qualified
              | l => l
            else a.levels.of g) ∧
        (moved → cfg.station ≠ none → s.supply.phase = .running →
          (b.flags.stale = true ↔ t.stationState cfg.station = some .lost) ∧
          (b.flags.suspended = true ↔ t.stationState cfg.station = some .skipped))) ∧
      (∀ k : TruckNo,
        (e.shadow.identity k = none → t.trucks[k.1] = TruckRec.cold) ∧
        (e.shadow.identity k ≠ none → t.trucks[k.1].state =
          if s.trucks[k.1].state = .active ∧ s.image.truckLost ≠ e.shadow.truckLost ∧
              s.trucks[k.1].heardTick + e.shadow.truckLost * 100 ≤ s.tick then .lost
          else s.trucks[k.1].state)) ∧
      (∀ n : RefugeNo, t.refuges[n.1].doorFaults = s.refuges[n.1].doorFaults ∧
        (s.image.panel n ≠ e.shadow.panel n → t.refuges[n.1].door = .unknown ∧ t.refuges[n.1].airLow = false ∧
          t.refuges[n.1].batteryLow = false) ∧
        (s.image.panel n = e.shadow.panel n → t.refuges[n.1].airLow = s.refuges[n.1].airLow ∧
          t.refuges[n.1].batteryLow = s.refuges[n.1].batteryLow ∧
          (t.stationState (e.shadow.panel n) = s.stationState (e.shadow.panel n) →
            t.refuges[n.1].door = s.refuges[n.1].door))) ∧
      s.Answers t p f .done .none ∧ (∀ z : Zone, s.zones[z.1].latch = true → t.zones[z.1].latch = true) ∧
      (s.supply.phase = .unconfigured → ∀ ln, (t.line ln).pollList = e.shadow.pollEntries ln ∧ t.WalkFrom ln 0) ∧
      State.SameBut (.supply :: commitAreas) s t

/-- CHECK_CLEAR (R169): ALREADY while the latch is clear, BUSY while a CHECK_CLEAR pass is in flight; otherwise a fresh
pass is in flight whose end answers the port. INTEGRITY_PASS_COMPLETE (R168, R169): the counters advance, the check
value is published by the check mode, and the latch is set by a mismatch, cleared by a matching CHECK_CLEAR pass, and
otherwise kept; the CHECK_CLEAR is answered, on an idle line ahead of every notice that the end of its pass causes
(R156). -/
def Obligations.IntegrityPasses : Prop :=
  (∀ (p : PortId) (f : Frame) (s : State), s.Serves p .checkClear f →
     ∃ t, exec (.checkClear p) s = .next t ∧ State.SameBut (.monitor :: endAreas) s t ∧
       (s.monitor.fault = false → s.Answers t p f .already .none ∧ t.monitor = s.monitor) ∧
       (s.monitor.fault = true → ∀ who, s.monitor.pass = some (.checkClear who) →
         s.Answers t p f .busy .none ∧ t.monitor = s.monitor) ∧
       (s.monitor.fault = true → (∀ who, s.monitor.pass ≠ some (.checkClear who)) →
         t.monitor = { s.monitor with pass := some (.checkClear (some (p, f.tag))) } ∧
         (t.port p).responses = (s.port p).responses)) ∧
  (∀ (s : State) (w : Pass), s.monitor.pass = some w →
     let good := decide (s.settings.reference = some s.image.crc)
     ∃ t, exec .integrityPassComplete s = .next t ∧ t.monitor.pass = none ∧
       t.monitor.passes = (s.monitor.passes + 1) % 65536 ∧ t.monitor.rolling = (s.monitor.rolling + 1) % 4 ∧
       t.monitor.published = some (if s.image.rollingMode then s.image.rollingCrc ((s.monitor.rolling + 1) % 4)
         else s.image.crc) ∧
       t.monitor.fault = (if good then (if w = .regular then s.monitor.fault else false) else true) ∧
       t.monitor.periodFrom = s.monitor.periodFrom ∧ t.monitor.period = s.monitor.period ∧
       (∀ p tag, w = .checkClear (some (p, tag)) →
         let answer : Response := { kind := 0x94#8, tag := tag, detail := .none
                                    result := if good then .done else .refused .mismatch }
         ((s.port p).responses ++ [answer] <+: (t.port p).responses) ∧
         ((s.port p).notices = [] → (s.port p).sent ++ [.response answer] <+: (t.port p).sent)) ∧
       State.SameBut (.monitor :: endAreas) s t)

/-- FULL_RESET (R174): refused outside NORMAL; in NORMAL it is answered DONE, every queued request is discarded, and no port
is served until the cold start (log 25). -/
def Obligations.FullReset : Prop :=
  ∀ (p : PortId) (f : Frame) (s : State), s.Serves p .fullReset f →
    ∃ t, exec (.fullReset p) s = .next t ∧ State.SameBut (.supply :: endAreas) s t ∧
      (s.withdrawal.state ≠ .normal → s.Answers t p f (.refused .withdrawing) .none ∧ t.supply = s.supply) ∧
      (s.withdrawal.state = .normal → s.Answers t p f .done .none ∧
        t.supply = { s.supply with resetPending := some p } ∧ (∀ q, (t.port q).requests = []) ∧
        ∀ q, t.serving q = false)

/-! ### Supply, hold-up and starts -/

/-- MAINS_OK_LOW out of MAINS with BATT_LOW clear (R171, R12): BATTERY, with its notice; every polled station outside the
battery poll mask whose poll is not in flight is SKIPPED, with misses 0. The SUPPLY notice goes ahead of the
other notices of the command (log 5). -/
def Obligations.MainsLowToBattery : Prop :=
  ∀ s : State, s.supply.phase = .running ∨ s.supply.phase = .unconfigured → s.supply.state = .mains →
    s.supply.battLow = false →
    ∃ t, exec .mainsOkLow s = .next t ∧ t.supply = { s.supply with state := .battery, mainsOk := false } ∧
      (∀ q, s.Sends t q (.supply .mains .battery)) ∧
      (∀ (st : StationNo) (r : StationRec), s.stations[st.1] = some r → s.polled st = true →
        inMask s.image.batteryMask r.zone.1 = false → s.pollOf st = none →
        ∃ r', t.stations[st.1] = some r' ∧ r'.state = .skipped ∧ (r.state ≠ .skipped → r'.misses = 0)) ∧
      (∀ (st : StationNo) (r : StationRec), s.stations[st.1] = some r → s.polled st = true →
        inMask s.image.batteryMask r.zone.1 = true → r.state ≠ .skipped →
        t.stations[st.1].map StationRec.bare = some r.bare) ∧
      State.SameBut (.supply :: .requests :: .responses :: fieldAreas) s t

/-- MAINS_OK_LOW out of MAINS with BATT_LOW asserted, and BATT_LOW_ASSERTED out of BATTERY, while RUNNING (R171): HOLDUP. Every
trip output is OPEN and every signal output OFF (R59, R149), a line in GAP stops (R4), a calibration fails (R38), an edit
closes (R165), a CHECK_CLEAR in flight is abandoned (R169), and the save waits for both lines (R172). The SUPPLY notice
goes ahead of the other notices of the command (log 5). -/
def Obligations.HoldupEntered : Prop :=
  ∀ (s : State) (c : Instr), s.supply.phase = .running →
    (c = .mainsOkLow ∧ s.supply.state = .mains ∧ s.supply.battLow = true) ∨
      (c = .battLowAsserted ∧ s.supply.state = .battery) →
    ∃ t, exec c s = .next t ∧ t.supply.state = .holdup ∧ t.supply.save = .quiet ∧ t.supply.phase = .running ∧
      t.supply.store = s.supply.store ∧ (∀ q, s.Sends t q (.supply s.supply.state .holdup)) ∧
      (∀ k : OutNo, t.trips[k.1].isOpen = true ∧ t.signals[k.1].on = false) ∧
      (∀ ln, (t.line ln).slot = none ∧ (t.line ln).pollList = (s.line ln).pollList ∧
        ((s.line ln).state = .gap → (t.line ln).state = .stopped) ∧
        ((s.line ln).state ≠ .gap → (t.line ln).state = (s.line ln).state ∧ (t.line ln).poll = (s.line ln).poll)) ∧
      (∀ ln cal, (s.line ln).slot = some cal → t.points[cal.point.1].flags.cal = false) ∧
      t.settings = { s.settings with edit := none } ∧
      t.monitor = { s.monitor with pass := if s.monitor.pass = some .regular then some .regular else none } ∧
      State.SameBut [.lines, .points, .outputs, .notices, .requests, .responses, .settings, .monitor, .supply] s t

/-- MAINS_OK_HIGH (R171, R173): BATTERY becomes MAINS and its SKIPPED stations in the poll list are UNPOLLED; out of
DORMANT a start begins, WARM when the store carries its mark, also while a FULL_RESET is under way (log 44); in MAINS and
HOLDUP the input is noted alone. The SUPPLY notice goes ahead of the other notices of the command (log 5). BATT_LOW_CLEARED changes no state but the noted input;
BATT_LOW_ASSERTED in MAINS and in HOLDUP is noted alone (R171). -/
def Obligations.MainsHighAndBattLow : Prop :=
  (∀ s : State, s.supply.phase = .running ∨ s.supply.phase = .unconfigured →
     ∃ t, exec .mainsOkHigh s = .next t ∧ t.supply.mainsOk = true ∧
       (s.supply.state = .battery → t.supply = { s.supply with state := .mains, mainsOk := true } ∧
         (∀ q, s.Sends t q (.supply .battery .mains)) ∧
         (∀ (st : StationNo) (r : StationRec), s.stations[st.1] = some r → s.polled st = true → r.state = .skipped →
           ∃ r', t.stations[st.1] = some r' ∧ r'.state = .unpolled) ∧
         State.SameBut (.supply :: .requests :: .responses :: fieldAreas) s t) ∧
       (s.supply.state = .dormant → t.supply.phase = .selfTest ∧ t.supply.store = s.supply.store ∧
         t.supply.start = (if s.supply.store.mark then
             { kind := .warm, cause := .holdupRestart, tableTestFail := false, restoreFault := false
               callsLost := s.supply.store.callsLost }
           else { kind := .cold, cause := .powerOn, tableTestFail := false, restoreFault := false, callsLost := 0 })) ∧
       (s.supply.state = .mains ∨ s.supply.state = .holdup →
         t.supply = { s.supply with mainsOk := true } ∧ State.SameBut (.supply :: endAreas) s t)) ∧
  (∀ s : State,
     exec .battLowCleared s = .next { s with supply := { s.supply with battLow := false } } ∧
     (s.supply.state = .mains ∨ s.supply.state = .holdup →
       ∃ t, exec .battLowAsserted s = .next t ∧ t.supply = { s.supply with battLow := true } ∧
         State.SameBut (.supply :: endAreas) s t))

/-- SAVE_COPY (R172): once both lines are STOPPED, the retained items are copied as they stand, with the number of calls;
the store's mark is cleared and the Section Clock stops (R158). SAVE_COMPLETE (R171, R172): the store holds the copy,
the count of calls and its check value, with the mark set; with MAINS_OK high a WARM start begins, also while a FULL_RESET
is under way (log 44), and with it low the part is DORMANT. -/
def Obligations.SaveStages : Prop :=
  (∀ s : State, s.supply.state = .holdup → s.supply.save = .quiet → (s.line .one).state = .stopped →
     (s.line .two).state = .stopped →
     ∃ t d, exec .saveCopy s = .next t ∧ t.supply.save = .writing d s.calls.calls.length ∧
       t.supply.store.mark = false ∧ t.clock = { s.clock with stopped := true } ∧
       d.image = s.settings.active ∧ d.reference = s.settings.reference ∧ d.records = s.roster.records ∧
       d.alarms = s.alarms ∧ d.withdrawal = s.withdrawal ∧ d.trucks = s.trucks ∧ d.seconds = s.clock.seconds ∧
       (∀ z : Zone, d.latches[z.1] = (s.zones[z.1].latch, s.zones[z.1].latchedAt)) ∧
       (∀ k : OutNo, d.forced[k.1] = s.trips[k.1].forced) ∧
       (∀ k : SegNo, d.holders[k.1] = s.segments[k.1].holder ∧ d.manual[k.1] = s.segments[k.1].manual) ∧
       (∀ n : RefugeNo, d.refuges[n.1] = (s.refuges[n.1].airLow, s.refuges[n.1].batteryLow, s.refuges[n.1].doorFaults)) ∧
       (∀ n : EntryNo, d.firings[n.1] = (s.entries[n.1].fired, s.entries[n.1].lastFired)) ∧
       State.SameBut (.supply :: .clock :: endAreas) s t) ∧
  (∀ (s : State) (d : Saved) (lost : Nat), s.supply.save = .writing d lost →
     ∃ t, exec .saveComplete s = .next t ∧
       t.supply.store = { data := some d, callsLost := lost, check := storeCheck d lost, mark := true } ∧
       t.supply.save = .none ∧
       (s.supply.mainsOk = true → t.supply.phase = .selfTest ∧ t.supply.start =
         { kind := .warm, cause := .holdupRestart, tableTestFail := false, restoreFault := false, callsLost := lost }) ∧
       (s.supply.mainsOk = false → t.supply.state = .dormant ∧ t.supply.phase = s.supply.phase ∧
         State.SameBut (.supply :: endAreas) s t))

/-- POWER_ON and FULL_RESET_COLD_START (R173, R174): a start begins in SELF_TEST with every table at its cold values, which
are those of the reset state (O3); the Section Clock is at 0, which at a WARM start it is until RESTORE adds the saved value
(log 20). POWER_ON is WARM when the store carries its mark, and a FULL_RESET's start, which waits until the DONE response
has been sent, that is until no response of its port waits (log 8, also for one lost with its port), is COLD, the mark
cleared. A FULL_RESET's start is said of every supply state, also of one that a HOLDUP has overtaken (log 44). -/
def Obligations.StartsBegin : Prop :=
  ∀ (s : State) (c : Instr),
    c = .powerOn ∨ (c = .fullResetColdStart ∧ ∃ p, s.supply.resetPending = some p ∧ (s.port p).held = []) →
    ∃ t, exec c s = .next t ∧ t.supply.phase = .selfTest ∧ t.supply.resetPending = none ∧
      t.supply.store = (if c = .powerOn then s.supply.store else { s.supply.store with mark := false }) ∧
      t.supply.start = (if c = .powerOn ∧ s.supply.store.mark = true then
          { kind := .warm, cause := .powerOn, tableTestFail := false, restoreFault := false
            callsLost := s.supply.store.callsLost }
        else
          { kind := .cold, cause := if c = .powerOn then .powerOn else .fullReset, tableTestFail := false
            restoreFault := false, callsLost := 0 }) ∧
      t.supply.save = .none ∧ t.supply.mainsOk = s.supply.mainsOk ∧ t.supply.battLow = s.supply.battLow ∧
      t.clock.seconds = 0 ∧ t.clock.unset = true ∧ t.pending = s.pending ∧ t.tick = s.tick ∧
      t.settings = { active := none, reference := none, edit := none } ∧ t.roster.records = [] ∧ t.alarms = [] ∧
      t.calls.calls = [] ∧ t.delivery = [] ∧ t.monitor.fault = false ∧ t.withdrawal.state = .normal ∧
      (∀ q, (t.port q).state = .down ∧ (t.port q).requests = [] ∧ (t.port q).notices = []) ∧
      (∀ ln, (t.line ln).state = .idle ∧ (t.line ln).slot = none) ∧
      (∀ st : StationNo, t.stations[st.1] = none) ∧
      (∀ pt : PointNo, t.points[pt.1].s = none ∧ t.points[pt.1].staleTrip = false) ∧
      (∀ z : Zone, t.zones[z.1].level = .none ∧ t.zones[z.1].latch = false) ∧
      (∀ k : OutNo, t.trips[k.1].isOpen = true ∧ t.trips[k.1].forced = false ∧ t.signals[k.1].on = false) ∧
      (∀ k : SegNo, t.segments[k.1].holder = none ∧ t.segments[k.1].gas = false ∧ t.segments[k.1].manual = false) ∧
      (∀ k : TruckNo, t.trucks[k.1].state = .unknown) ∧
      (∀ n : RefugeNo, t.refuges[n.1].door = .unknown ∧ t.refuges[n.1].airLow = false) ∧
      (∀ n : EntryNo, t.entries[n.1].active = false ∧ t.entries[n.1].fired = 0) ∧
      State.SameBut [.tick, .clock, .supply, .pending] State.reset t

/-- SELF_TEST_COMPLETE (R173, R171): the start records what the test found; a WARM start goes on to RESTORE, and a COLD
one is UNCONFIGURED with the Section Clock at 0 (log 32) and its supply state set from the inputs, a HOLDUP so set being
DORMANT at once (log 10). RESTORE_COMPLETE of a store that fails its check (R173): RESTORE_FAULT, the mark cleared, and the
start goes on as COLD, its record COLD with no calls lost and the cause kept (log 11); it enters UNCONFIGURED with every
other table left as the start made it. -/
def Obligations.SelfTestEnds : Prop :=
  (∀ (s : State) (failed : Bool), s.supply.phase = .selfTest →
     ∃ t, exec (.selfTestComplete failed) s = .next t ∧
       t.supply.start = { s.supply.start with tableTestFail := failed } ∧
       (s.supply.start.kind = .warm → t.supply.phase = .restore ∧ t.supply.state = s.supply.state ∧
         t.clock = s.clock) ∧
       (s.supply.start.kind = .cold → t.supply.phase = .unconfigured ∧
         t.supply.state = (if s.supply.mainsOk then .mains else if s.supply.battLow then .dormant else .battery) ∧
         t.clock = { s.clock with seconds := 0, unset := true }) ∧
       State.SameBut (.clock :: .supply :: endAreas) s t) ∧
  (∀ s : State, s.supply.phase = .restore →
     (∀ d, s.supply.store.data = some d → s.supply.store.check ≠ storeCheck d s.supply.store.callsLost) →
     ∃ t, exec .restoreComplete s = .next t ∧ t.supply.phase = .unconfigured ∧ t.supply.store.mark = false ∧
       t.supply.start = { s.supply.start with kind := .cold, restoreFault := true, callsLost := 0 } ∧
       t.clock = { s.clock with seconds := 0, unset := true } ∧
       State.SameBut (.clock :: .supply :: endAreas) s t)

/-- RESTORE_COMPLETE of a store that passes (R173, R170, R62, R79, R121, R136, R146): RUNNING with the retained image,
latches, forced flags, roster, alarm list, withdrawal record, refuge flags, MANUAL flags, truck records and fired counts;
the clock goes on from the saved value (log 20), and the seconds of unseen count afresh from now (log 36); the latch of
SETTINGS_FAULT is the restore pass's. Every alarm record is
reconciled with zones at NONE; the restored WITHDRAW ages the roster (R71) and cuts every INBYE run to its current segment
(R118); every known truck is LOST, and without WITHDRAW and BLOCK actions it has the run it was saved with, each segment its holder,
UNVERIFIED. Each line begins its first pass, or is STOPPED for a save that begins at once. -/
def Obligations.RestoreSucceeds : Prop :=
  ∀ (s : State) (d : Saved), s.supply.phase = .restore → s.supply.store.data = some d →
    s.supply.store.check = storeCheck d s.supply.store.callsLost →
    (∀ pt : PointNo, s.points[pt.1] = PointRt.cold) →
    let img := d.image.getD Image.default
    ∃ t, exec .restoreComplete s = .next t ∧ t.supply.phase = .running ∧ t.supply.store.mark = false ∧
      t.supply.start = s.supply.start ∧
      t.supply.state = (if s.supply.mainsOk then .mains else if s.supply.battLow then .holdup else .battery) ∧
      (t.supply.state = .holdup → t.supply.save = .quiet ∧ ∀ ln, (t.line ln).state = .stopped) ∧
      (t.supply.state ≠ .holdup → ∀ ln, (t.line ln).pollList = t.image.pollEntries ln ∧ t.WalkFrom ln 0) ∧
      t.settings = { active := d.image, reference := d.reference, edit := none } ∧
      t.clock.seconds = (d.seconds + s.clock.seconds) % 4294967296 ∧
      t.monitor.fault = (s.monitor.fault || decide (d.reference ≠ some img.crc)) ∧
      (∀ z : Zone, t.zones[z.1] = { level := .none, latch := d.latches[z.1].1, latchedAt := d.latches[z.1].2 }) ∧
      (∀ k : OutNo, t.trips[k.1].forced = d.forced[k.1]) ∧ t.withdrawal = d.withdrawal ∧ t.calls = s.calls ∧
      t.alarms = d.alarms.filterMap (fun r => match r.state with
        | .activeAcked _ => none
        | _ => some { r with state := .clearedUnack }) ∧
      t.roster.records = d.records.map (fun r => { r with
        openCall := none, unseenFrom := s.tick
        state := if d.withdrawal.state = .withdraw ∧ r.state = .present ∧ img.missingWithdraw ≤ r.unseen then .missing
          else r.state }) ∧
      (∀ n : RefugeNo, t.refuges[n.1].airLow = d.refuges[n.1].1 ∧ t.refuges[n.1].batteryLow = d.refuges[n.1].2.1 ∧
        t.refuges[n.1].doorFaults = d.refuges[n.1].2.2 ∧ t.refuges[n.1].door = s.refuges[n.1].door) ∧
      (∀ n : EntryNo, t.entries[n.1].fired = d.firings[n.1].1 ∧ t.entries[n.1].lastFired = d.firings[n.1].2) ∧
      (∀ k : SegNo, t.segments[k.1].manual = d.manual[k.1] ∧
        t.segments[k.1].gas = d.latches[(img.segment k).zone.1].1 ∧
        (∀ tr, t.segments[k.1].holder = some tr → d.holders[k.1] = some tr ∧ t.segments[k.1].unverified = true)) ∧
      (∀ k : TruckNo, { t.trucks[k.1] with run := none, demand := none, cap := 0 } = { d.trucks[k.1] with
          state := if d.trucks[k.1].state = .unknown then .unknown else .lost, run := none, demand := none, cap := 0
          overspeed := false, clamped := false, posClamped := false } ∧
        t.trucks[k.1].run.map Run.cur = d.trucks[k.1].run.map Run.cur ∧ t.trucks[k.1].cap = 0 ∧
        (d.trucks[k.1].state = .unknown → t.trucks[k.1].demand = none) ∧
        (d.trucks[k.1].state ≠ .unknown → t.trucks[k.1].demand = some (match d.trucks[k.1].run with
          | some b => if d.latches[(img.segment b.cur).zone.1].1 then .engineStop else .stop
          | none => .stop))) ∧
      (d.withdrawal.state = .withdraw → ∀ (k : TruckNo) (r : Run), t.trucks[k.1].run = some r →
        t.trucks[k.1].dir = .inbye → r.last = r.cur) ∧
      (d.withdrawal.state ≠ .withdraw → (∀ e m, (img.entry e).action ≠ .block m) →
        (∀ k : SegNo, t.segments[k.1].holder = d.holders[k.1]) ∧
        ∀ k : TruckNo, t.trucks[k.1].run = d.trucks[k.1].run)

/-- R172, R173: a section saved with MAINS_OK high and restored comes back with its retained items, none lost or mixed with
another between the copy and RUNNING: image, latches, forced flags, alarm list (reconciled, R62), MANUAL flags, withdrawal
record, roster (aged where WITHDRAW is restored, R71), fired counts, refuge flags and door faults, and truck records; the
doors are UNKNOWN, the trucks LOST, and, without WITHDRAW and BLOCK actions, every segment has its holder. The calls are
lost, the clock goes on from the saved value (log 20), and the seconds of unseen count afresh (log 36). -/
def Obligations.HoldupRestartKeeps : Prop :=
  ∀ s a b c e : State, s.supply.state = .holdup → s.supply.save = .quiet → (s.line .one).state = .stopped →
    (s.line .two).state = .stopped → s.supply.mainsOk = true →
    exec .saveCopy s = .next a → exec .saveComplete a = .next b → exec (.selfTestComplete false) b = .next c →
    exec .restoreComplete c = .next e →
    e.supply.phase = .running ∧ e.supply.state = .mains ∧ e.supply.start =
      { kind := .warm, cause := .holdupRestart, tableTestFail := false, restoreFault := false
        callsLost := s.calls.calls.length } ∧
    e.settings = { s.settings with edit := none } ∧ e.withdrawal = s.withdrawal ∧
    (∀ z : Zone, e.zones[z.1].latch = s.zones[z.1].latch ∧ e.zones[z.1].latchedAt = s.zones[z.1].latchedAt) ∧
    (∀ k : OutNo, e.trips[k.1].forced = s.trips[k.1].forced) ∧
    e.alarms = s.alarms.filterMap (fun r => match r.state with
      | .activeAcked _ => none
      | _ => some { r with state := .clearedUnack }) ∧
    (∀ k : SegNo, e.segments[k.1].manual = s.segments[k.1].manual) ∧
    e.roster.records = s.roster.records.map (fun r => { r with
      openCall := none, unseenFrom := s.tick
      state := if s.withdrawal.state = .withdraw ∧ r.state = .present ∧ s.image.missingWithdraw ≤ r.unseen then .missing
        else r.state }) ∧
    (∀ n : RefugeNo, e.refuges[n.1].airLow = s.refuges[n.1].airLow ∧
      e.refuges[n.1].batteryLow = s.refuges[n.1].batteryLow ∧
      e.refuges[n.1].doorFaults = s.refuges[n.1].doorFaults ∧ e.refuges[n.1].door = .unknown) ∧
    (∀ n : EntryNo, e.entries[n.1].fired = s.entries[n.1].fired ∧ e.entries[n.1].lastFired = s.entries[n.1].lastFired) ∧
    (∀ k : TruckNo, { e.trucks[k.1] with run := none, demand := none, cap := 0 } = { s.trucks[k.1] with
        state := if s.trucks[k.1].state = .unknown then .unknown else .lost, run := none, demand := none, cap := 0
        overspeed := false, clamped := false, posClamped := false } ∧
      e.trucks[k.1].run.map Run.cur = s.trucks[k.1].run.map Run.cur) ∧
    (s.withdrawal.state ≠ .withdraw → (∀ n m, (s.image.entry n).action ≠ .block m) →
      (∀ k : SegNo, e.segments[k.1].holder = s.segments[k.1].holder) ∧
      ∀ k : TruckNo, e.trucks[k.1].run = s.trucks[k.1].run) ∧
    e.calls.calls = [] ∧ e.clock.seconds = s.clock.seconds % 4294967296
end

