-- ==== Sys2Proof/Laws/Tables.lean ====
section
/-!
SUPPORT. What the one-place and the whole-table updates do, and how a property goes through `forEach`.
-/

-- The proofs are checked one after the other, within the memory that a check is given.
set_option Elab.async false

namespace Sys2Proof

variable {α : Type} {n : Nat}

theorem upd_get (v : Vector α n) (i : Fin n) (f : α → α) (j : Nat) (hj : j < n) :
    (upd v i f)[j] = if i.1 = j then f v[j] else v[j] := by
  unfold upd
  rw [Vector.getElem_set]
  split
  · next h => subst h; rfl
  · rfl

@[simp] theorem upd_get_self (v : Vector α n) (i : Fin n) (f : α → α) : (upd v i f)[i.1] = f v[i.1] := by
  simp [upd_get]

theorem upd_get_ne (v : Vector α n) {i : Fin n} (f : α → α) {j : Nat} (hj : j < n) (h : i.1 ≠ j) :
    (upd v i f)[j] = v[j] := by
  simp [upd_get, h]

/-- A one-place update leaves alone every reading that its function leaves alone. -/
theorem upd_proj {β : Type} (g : α → β) (v : Vector α n) (i : Fin n) (f : α → α) (h : ∀ x, g (f x) = g x)
    (j : Nat) (hj : j < n) : g (upd v i f)[j] = g v[j] := by
  rw [upd_get]; split <;> simp [h]

theorem foldl_upd_get (f : Fin n → α → α) (l : List (Fin n)) (hl : l.Nodup) (v : Vector α n) (i : Fin n) :
    (l.foldl (fun w k => upd w k (f k)) v)[i.1] = if i ∈ l then f i v[i.1] else v[i.1] := by
  induction l generalizing v with
  | nil => simp
  | cons a l ih =>
    obtain ⟨ha, hl⟩ := List.nodup_cons.1 hl
    rw [List.foldl_cons, ih hl]
    by_cases h : i = a
    · subst h; simp [ha]
    · have h' : a.1 ≠ i.1 := fun e => h (Fin.ext e.symm)
      simp [h, upd_get, h']

/-- Every entry of a table is changed by its own function. -/
@[simp] theorem updAll_get (v : Vector α n) (f : Fin n → α → α) (i : Fin n) : (updAll v f)[i.1] = f i v[i.1] := by
  unfold updAll
  rw [foldl_upd_get f _ (List.nodup_finRange n)]
  simp

theorem updAll_get' (v : Vector α n) (f : Fin n → α → α) (j : Nat) (hj : j < n) :
    (updAll v f)[j] = f ⟨j, hj⟩ v[j] := updAll_get v f ⟨j, hj⟩

theorem updAll_proj {β : Type} (g : α → β) (v : Vector α n) (f : Fin n → α → α) (h : ∀ i x, g (f i x) = g x)
    (j : Nat) (hj : j < n) : g (updAll v f)[j] = g v[j] := by
  rw [updAll_get' v f j hj, h]

theorem updAll_id (v : Vector α n) (f : Fin n → α → α) (h : ∀ i : Fin n, f i v[i.1] = v[i.1]) : updAll v f = v := by
  apply Vector.ext
  intro i hi
  rw [updAll_get' v f i hi]
  exact h ⟨i, hi⟩

namespace Machine

/-- An invariant of every turn is an invariant of the whole loop. -/
theorem forEach_ind {α : Type} (P : State → Prop) (xs : List α) (f : α → State → State)
    (h : ∀ x s, P s → P (f x s)) (s : State) (hs : P s) : P (forEach xs f s) := by
  unfold forEach
  induction xs generalizing s with
  | nil => exact hs
  | cons x xs ih => exact ih _ (h x s hs)

@[simp] theorem forEach_nil {α : Type} (f : α → State → State) (s : State) : forEach [] f s = s := rfl

@[simp] theorem forEach_cons {α : Type} (x : α) (xs : List α) (f : α → State → State) (s : State) :
    forEach (x :: xs) f s = forEach xs f (f x s) := rfl

theorem forEach_append {α : Type} (xs ys : List α) (f : α → State → State) (s : State) :
    forEach (xs ++ ys) f s = forEach ys f (forEach xs f s) := by
  simp [forEach]

end Machine
end Sys2Proof
end

