-- ==== Sys2Proof/Laws/State.lean ====
section
/-!
SUPPORT. One lemma per field per update of a record of `State`, and what an update's own record holds after it. The
lemmas of the updates that write one field of `State` and copy the others are true by rfl.
-/

-- The proofs are checked one after the other, within the memory that a check is given.
set_option Elab.async false

namespace Sys2Proof.Machine

/-! ### `State.updLine` -/

@[simp] theorem State.updLine_tick (ln : LineNo) (f : LineRec → LineRec) (s : State) : (s.updLine ln f).tick = s.tick := rfl
@[simp] theorem State.updLine_clock (ln : LineNo) (f : LineRec → LineRec) (s : State) : (s.updLine ln f).clock = s.clock := rfl
@[simp] theorem State.updLine_stations (ln : LineNo) (f : LineRec → LineRec) (s : State) : (s.updLine ln f).stations = s.stations := rfl
@[simp] theorem State.updLine_delivery (ln : LineNo) (f : LineRec → LineRec) (s : State) : (s.updLine ln f).delivery = s.delivery := rfl
@[simp] theorem State.updLine_points (ln : LineNo) (f : LineRec → LineRec) (s : State) : (s.updLine ln f).points = s.points := rfl
@[simp] theorem State.updLine_zones (ln : LineNo) (f : LineRec → LineRec) (s : State) : (s.updLine ln f).zones = s.zones := rfl
@[simp] theorem State.updLine_alarms (ln : LineNo) (f : LineRec → LineRec) (s : State) : (s.updLine ln f).alarms = s.alarms := rfl
@[simp] theorem State.updLine_trips (ln : LineNo) (f : LineRec → LineRec) (s : State) : (s.updLine ln f).trips = s.trips := rfl
@[simp] theorem State.updLine_roster (ln : LineNo) (f : LineRec → LineRec) (s : State) : (s.updLine ln f).roster = s.roster := rfl
@[simp] theorem State.updLine_calls (ln : LineNo) (f : LineRec → LineRec) (s : State) : (s.updLine ln f).calls = s.calls := rfl
@[simp] theorem State.updLine_segments (ln : LineNo) (f : LineRec → LineRec) (s : State) : (s.updLine ln f).segments = s.segments := rfl
@[simp] theorem State.updLine_trucks (ln : LineNo) (f : LineRec → LineRec) (s : State) : (s.updLine ln f).trucks = s.trucks := rfl
@[simp] theorem State.updLine_road (ln : LineNo) (f : LineRec → LineRec) (s : State) : (s.updLine ln f).road = s.road := rfl
@[simp] theorem State.updLine_refuges (ln : LineNo) (f : LineRec → LineRec) (s : State) : (s.updLine ln f).refuges = s.refuges := rfl
@[simp] theorem State.updLine_withdrawal (ln : LineNo) (f : LineRec → LineRec) (s : State) : (s.updLine ln f).withdrawal = s.withdrawal := rfl
@[simp] theorem State.updLine_entries (ln : LineNo) (f : LineRec → LineRec) (s : State) : (s.updLine ln f).entries = s.entries := rfl
@[simp] theorem State.updLine_signals (ln : LineNo) (f : LineRec → LineRec) (s : State) : (s.updLine ln f).signals = s.signals := rfl
@[simp] theorem State.updLine_faultLine (ln : LineNo) (f : LineRec → LineRec) (s : State) : (s.updLine ln f).faultLine = s.faultLine := rfl
@[simp] theorem State.updLine_ports (ln : LineNo) (f : LineRec → LineRec) (s : State) : (s.updLine ln f).ports = s.ports := rfl
@[simp] theorem State.updLine_settings (ln : LineNo) (f : LineRec → LineRec) (s : State) : (s.updLine ln f).settings = s.settings := rfl
@[simp] theorem State.updLine_monitor (ln : LineNo) (f : LineRec → LineRec) (s : State) : (s.updLine ln f).monitor = s.monitor := rfl
@[simp] theorem State.updLine_supply (ln : LineNo) (f : LineRec → LineRec) (s : State) : (s.updLine ln f).supply = s.supply := rfl
@[simp] theorem State.updLine_pending (ln : LineNo) (f : LineRec → LineRec) (s : State) : (s.updLine ln f).pending = s.pending := rfl
@[simp] theorem State.updLine_port (ln : LineNo) (f : LineRec → LineRec) (s : State) (q : PortId) : (s.updLine ln f).port q = s.port q := rfl
@[simp] theorem State.updLine_image (ln : LineNo) (f : LineRec → LineRec) (s : State) : (s.updLine ln f).image = s.image := rfl
@[simp] theorem State.updLine_now (ln : LineNo) (f : LineRec → LineRec) (s : State) : (s.updLine ln f).now = s.now := rfl

/-! ### `State.updPort` -/

@[simp] theorem State.updPort_tick (p : PortId) (f : PortRec → PortRec) (s : State) : (s.updPort p f).tick = s.tick := rfl
@[simp] theorem State.updPort_clock (p : PortId) (f : PortRec → PortRec) (s : State) : (s.updPort p f).clock = s.clock := rfl
@[simp] theorem State.updPort_lines (p : PortId) (f : PortRec → PortRec) (s : State) : (s.updPort p f).lines = s.lines := rfl
@[simp] theorem State.updPort_stations (p : PortId) (f : PortRec → PortRec) (s : State) : (s.updPort p f).stations = s.stations := rfl
@[simp] theorem State.updPort_delivery (p : PortId) (f : PortRec → PortRec) (s : State) : (s.updPort p f).delivery = s.delivery := rfl
@[simp] theorem State.updPort_points (p : PortId) (f : PortRec → PortRec) (s : State) : (s.updPort p f).points = s.points := rfl
@[simp] theorem State.updPort_zones (p : PortId) (f : PortRec → PortRec) (s : State) : (s.updPort p f).zones = s.zones := rfl
@[simp] theorem State.updPort_alarms (p : PortId) (f : PortRec → PortRec) (s : State) : (s.updPort p f).alarms = s.alarms := rfl
@[simp] theorem State.updPort_trips (p : PortId) (f : PortRec → PortRec) (s : State) : (s.updPort p f).trips = s.trips := rfl
@[simp] theorem State.updPort_roster (p : PortId) (f : PortRec → PortRec) (s : State) : (s.updPort p f).roster = s.roster := rfl
@[simp] theorem State.updPort_calls (p : PortId) (f : PortRec → PortRec) (s : State) : (s.updPort p f).calls = s.calls := rfl
@[simp] theorem State.updPort_segments (p : PortId) (f : PortRec → PortRec) (s : State) : (s.updPort p f).segments = s.segments := rfl
@[simp] theorem State.updPort_trucks (p : PortId) (f : PortRec → PortRec) (s : State) : (s.updPort p f).trucks = s.trucks := rfl
@[simp] theorem State.updPort_road (p : PortId) (f : PortRec → PortRec) (s : State) : (s.updPort p f).road = s.road := rfl
@[simp] theorem State.updPort_refuges (p : PortId) (f : PortRec → PortRec) (s : State) : (s.updPort p f).refuges = s.refuges := rfl
@[simp] theorem State.updPort_withdrawal (p : PortId) (f : PortRec → PortRec) (s : State) : (s.updPort p f).withdrawal = s.withdrawal := rfl
@[simp] theorem State.updPort_entries (p : PortId) (f : PortRec → PortRec) (s : State) : (s.updPort p f).entries = s.entries := rfl
@[simp] theorem State.updPort_signals (p : PortId) (f : PortRec → PortRec) (s : State) : (s.updPort p f).signals = s.signals := rfl
@[simp] theorem State.updPort_faultLine (p : PortId) (f : PortRec → PortRec) (s : State) : (s.updPort p f).faultLine = s.faultLine := rfl
@[simp] theorem State.updPort_settings (p : PortId) (f : PortRec → PortRec) (s : State) : (s.updPort p f).settings = s.settings := rfl
@[simp] theorem State.updPort_monitor (p : PortId) (f : PortRec → PortRec) (s : State) : (s.updPort p f).monitor = s.monitor := rfl
@[simp] theorem State.updPort_supply (p : PortId) (f : PortRec → PortRec) (s : State) : (s.updPort p f).supply = s.supply := rfl
@[simp] theorem State.updPort_pending (p : PortId) (f : PortRec → PortRec) (s : State) : (s.updPort p f).pending = s.pending := rfl
@[simp] theorem State.updPort_line (p : PortId) (f : PortRec → PortRec) (s : State) (l : LineNo) : (s.updPort p f).line l = s.line l := rfl
@[simp] theorem State.updPort_image (p : PortId) (f : PortRec → PortRec) (s : State) : (s.updPort p f).image = s.image := rfl
@[simp] theorem State.updPort_now (p : PortId) (f : PortRec → PortRec) (s : State) : (s.updPort p f).now = s.now := rfl

/-! ### `State.updStation` -/

@[simp] theorem State.updStation_tick (st : StationNo) (f : StationRec → StationRec) (s : State) : (s.updStation st f).tick = s.tick := rfl
@[simp] theorem State.updStation_clock (st : StationNo) (f : StationRec → StationRec) (s : State) : (s.updStation st f).clock = s.clock := rfl
@[simp] theorem State.updStation_lines (st : StationNo) (f : StationRec → StationRec) (s : State) : (s.updStation st f).lines = s.lines := rfl
@[simp] theorem State.updStation_delivery (st : StationNo) (f : StationRec → StationRec) (s : State) : (s.updStation st f).delivery = s.delivery := rfl
@[simp] theorem State.updStation_points (st : StationNo) (f : StationRec → StationRec) (s : State) : (s.updStation st f).points = s.points := rfl
@[simp] theorem State.updStation_zones (st : StationNo) (f : StationRec → StationRec) (s : State) : (s.updStation st f).zones = s.zones := rfl
@[simp] theorem State.updStation_alarms (st : StationNo) (f : StationRec → StationRec) (s : State) : (s.updStation st f).alarms = s.alarms := rfl
@[simp] theorem State.updStation_trips (st : StationNo) (f : StationRec → StationRec) (s : State) : (s.updStation st f).trips = s.trips := rfl
@[simp] theorem State.updStation_roster (st : StationNo) (f : StationRec → StationRec) (s : State) : (s.updStation st f).roster = s.roster := rfl
@[simp] theorem State.updStation_calls (st : StationNo) (f : StationRec → StationRec) (s : State) : (s.updStation st f).calls = s.calls := rfl
@[simp] theorem State.updStation_segments (st : StationNo) (f : StationRec → StationRec) (s : State) : (s.updStation st f).segments = s.segments := rfl
@[simp] theorem State.updStation_trucks (st : StationNo) (f : StationRec → StationRec) (s : State) : (s.updStation st f).trucks = s.trucks := rfl
@[simp] theorem State.updStation_road (st : StationNo) (f : StationRec → StationRec) (s : State) : (s.updStation st f).road = s.road := rfl
@[simp] theorem State.updStation_refuges (st : StationNo) (f : StationRec → StationRec) (s : State) : (s.updStation st f).refuges = s.refuges := rfl
@[simp] theorem State.updStation_withdrawal (st : StationNo) (f : StationRec → StationRec) (s : State) : (s.updStation st f).withdrawal = s.withdrawal := rfl
@[simp] theorem State.updStation_entries (st : StationNo) (f : StationRec → StationRec) (s : State) : (s.updStation st f).entries = s.entries := rfl
@[simp] theorem State.updStation_signals (st : StationNo) (f : StationRec → StationRec) (s : State) : (s.updStation st f).signals = s.signals := rfl
@[simp] theorem State.updStation_faultLine (st : StationNo) (f : StationRec → StationRec) (s : State) : (s.updStation st f).faultLine = s.faultLine := rfl
@[simp] theorem State.updStation_ports (st : StationNo) (f : StationRec → StationRec) (s : State) : (s.updStation st f).ports = s.ports := rfl
@[simp] theorem State.updStation_settings (st : StationNo) (f : StationRec → StationRec) (s : State) : (s.updStation st f).settings = s.settings := rfl
@[simp] theorem State.updStation_monitor (st : StationNo) (f : StationRec → StationRec) (s : State) : (s.updStation st f).monitor = s.monitor := rfl
@[simp] theorem State.updStation_supply (st : StationNo) (f : StationRec → StationRec) (s : State) : (s.updStation st f).supply = s.supply := rfl
@[simp] theorem State.updStation_pending (st : StationNo) (f : StationRec → StationRec) (s : State) : (s.updStation st f).pending = s.pending := rfl
@[simp] theorem State.updStation_port (st : StationNo) (f : StationRec → StationRec) (s : State) (q : PortId) : (s.updStation st f).port q = s.port q := rfl
@[simp] theorem State.updStation_line (st : StationNo) (f : StationRec → StationRec) (s : State) (l : LineNo) : (s.updStation st f).line l = s.line l := rfl
@[simp] theorem State.updStation_image (st : StationNo) (f : StationRec → StationRec) (s : State) : (s.updStation st f).image = s.image := rfl
@[simp] theorem State.updStation_now (st : StationNo) (f : StationRec → StationRec) (s : State) : (s.updStation st f).now = s.now := rfl

/-! ### `State.updPoint` -/

@[simp] theorem State.updPoint_tick (pt : PointNo) (f : PointRt → PointRt) (s : State) : (s.updPoint pt f).tick = s.tick := rfl
@[simp] theorem State.updPoint_clock (pt : PointNo) (f : PointRt → PointRt) (s : State) : (s.updPoint pt f).clock = s.clock := rfl
@[simp] theorem State.updPoint_lines (pt : PointNo) (f : PointRt → PointRt) (s : State) : (s.updPoint pt f).lines = s.lines := rfl
@[simp] theorem State.updPoint_stations (pt : PointNo) (f : PointRt → PointRt) (s : State) : (s.updPoint pt f).stations = s.stations := rfl
@[simp] theorem State.updPoint_delivery (pt : PointNo) (f : PointRt → PointRt) (s : State) : (s.updPoint pt f).delivery = s.delivery := rfl
@[simp] theorem State.updPoint_zones (pt : PointNo) (f : PointRt → PointRt) (s : State) : (s.updPoint pt f).zones = s.zones := rfl
@[simp] theorem State.updPoint_alarms (pt : PointNo) (f : PointRt → PointRt) (s : State) : (s.updPoint pt f).alarms = s.alarms := rfl
@[simp] theorem State.updPoint_trips (pt : PointNo) (f : PointRt → PointRt) (s : State) : (s.updPoint pt f).trips = s.trips := rfl
@[simp] theorem State.updPoint_roster (pt : PointNo) (f : PointRt → PointRt) (s : State) : (s.updPoint pt f).roster = s.roster := rfl
@[simp] theorem State.updPoint_calls (pt : PointNo) (f : PointRt → PointRt) (s : State) : (s.updPoint pt f).calls = s.calls := rfl
@[simp] theorem State.updPoint_segments (pt : PointNo) (f : PointRt → PointRt) (s : State) : (s.updPoint pt f).segments = s.segments := rfl
@[simp] theorem State.updPoint_trucks (pt : PointNo) (f : PointRt → PointRt) (s : State) : (s.updPoint pt f).trucks = s.trucks := rfl
@[simp] theorem State.updPoint_road (pt : PointNo) (f : PointRt → PointRt) (s : State) : (s.updPoint pt f).road = s.road := rfl
@[simp] theorem State.updPoint_refuges (pt : PointNo) (f : PointRt → PointRt) (s : State) : (s.updPoint pt f).refuges = s.refuges := rfl
@[simp] theorem State.updPoint_withdrawal (pt : PointNo) (f : PointRt → PointRt) (s : State) : (s.updPoint pt f).withdrawal = s.withdrawal := rfl
@[simp] theorem State.updPoint_entries (pt : PointNo) (f : PointRt → PointRt) (s : State) : (s.updPoint pt f).entries = s.entries := rfl
@[simp] theorem State.updPoint_signals (pt : PointNo) (f : PointRt → PointRt) (s : State) : (s.updPoint pt f).signals = s.signals := rfl
@[simp] theorem State.updPoint_faultLine (pt : PointNo) (f : PointRt → PointRt) (s : State) : (s.updPoint pt f).faultLine = s.faultLine := rfl
@[simp] theorem State.updPoint_ports (pt : PointNo) (f : PointRt → PointRt) (s : State) : (s.updPoint pt f).ports = s.ports := rfl
@[simp] theorem State.updPoint_settings (pt : PointNo) (f : PointRt → PointRt) (s : State) : (s.updPoint pt f).settings = s.settings := rfl
@[simp] theorem State.updPoint_monitor (pt : PointNo) (f : PointRt → PointRt) (s : State) : (s.updPoint pt f).monitor = s.monitor := rfl
@[simp] theorem State.updPoint_supply (pt : PointNo) (f : PointRt → PointRt) (s : State) : (s.updPoint pt f).supply = s.supply := rfl
@[simp] theorem State.updPoint_pending (pt : PointNo) (f : PointRt → PointRt) (s : State) : (s.updPoint pt f).pending = s.pending := rfl
@[simp] theorem State.updPoint_port (pt : PointNo) (f : PointRt → PointRt) (s : State) (q : PortId) : (s.updPoint pt f).port q = s.port q := rfl
@[simp] theorem State.updPoint_line (pt : PointNo) (f : PointRt → PointRt) (s : State) (l : LineNo) : (s.updPoint pt f).line l = s.line l := rfl
@[simp] theorem State.updPoint_image (pt : PointNo) (f : PointRt → PointRt) (s : State) : (s.updPoint pt f).image = s.image := rfl
@[simp] theorem State.updPoint_now (pt : PointNo) (f : PointRt → PointRt) (s : State) : (s.updPoint pt f).now = s.now := rfl

/-! ### `State.updZone` -/

@[simp] theorem State.updZone_tick (z : Zone) (f : ZoneRec → ZoneRec) (s : State) : (s.updZone z f).tick = s.tick := rfl
@[simp] theorem State.updZone_clock (z : Zone) (f : ZoneRec → ZoneRec) (s : State) : (s.updZone z f).clock = s.clock := rfl
@[simp] theorem State.updZone_lines (z : Zone) (f : ZoneRec → ZoneRec) (s : State) : (s.updZone z f).lines = s.lines := rfl
@[simp] theorem State.updZone_stations (z : Zone) (f : ZoneRec → ZoneRec) (s : State) : (s.updZone z f).stations = s.stations := rfl
@[simp] theorem State.updZone_delivery (z : Zone) (f : ZoneRec → ZoneRec) (s : State) : (s.updZone z f).delivery = s.delivery := rfl
@[simp] theorem State.updZone_points (z : Zone) (f : ZoneRec → ZoneRec) (s : State) : (s.updZone z f).points = s.points := rfl
@[simp] theorem State.updZone_alarms (z : Zone) (f : ZoneRec → ZoneRec) (s : State) : (s.updZone z f).alarms = s.alarms := rfl
@[simp] theorem State.updZone_trips (z : Zone) (f : ZoneRec → ZoneRec) (s : State) : (s.updZone z f).trips = s.trips := rfl
@[simp] theorem State.updZone_roster (z : Zone) (f : ZoneRec → ZoneRec) (s : State) : (s.updZone z f).roster = s.roster := rfl
@[simp] theorem State.updZone_calls (z : Zone) (f : ZoneRec → ZoneRec) (s : State) : (s.updZone z f).calls = s.calls := rfl
@[simp] theorem State.updZone_segments (z : Zone) (f : ZoneRec → ZoneRec) (s : State) : (s.updZone z f).segments = s.segments := rfl
@[simp] theorem State.updZone_trucks (z : Zone) (f : ZoneRec → ZoneRec) (s : State) : (s.updZone z f).trucks = s.trucks := rfl
@[simp] theorem State.updZone_road (z : Zone) (f : ZoneRec → ZoneRec) (s : State) : (s.updZone z f).road = s.road := rfl
@[simp] theorem State.updZone_refuges (z : Zone) (f : ZoneRec → ZoneRec) (s : State) : (s.updZone z f).refuges = s.refuges := rfl
@[simp] theorem State.updZone_withdrawal (z : Zone) (f : ZoneRec → ZoneRec) (s : State) : (s.updZone z f).withdrawal = s.withdrawal := rfl
@[simp] theorem State.updZone_entries (z : Zone) (f : ZoneRec → ZoneRec) (s : State) : (s.updZone z f).entries = s.entries := rfl
@[simp] theorem State.updZone_signals (z : Zone) (f : ZoneRec → ZoneRec) (s : State) : (s.updZone z f).signals = s.signals := rfl
@[simp] theorem State.updZone_faultLine (z : Zone) (f : ZoneRec → ZoneRec) (s : State) : (s.updZone z f).faultLine = s.faultLine := rfl
@[simp] theorem State.updZone_ports (z : Zone) (f : ZoneRec → ZoneRec) (s : State) : (s.updZone z f).ports = s.ports := rfl
@[simp] theorem State.updZone_settings (z : Zone) (f : ZoneRec → ZoneRec) (s : State) : (s.updZone z f).settings = s.settings := rfl
@[simp] theorem State.updZone_monitor (z : Zone) (f : ZoneRec → ZoneRec) (s : State) : (s.updZone z f).monitor = s.monitor := rfl
@[simp] theorem State.updZone_supply (z : Zone) (f : ZoneRec → ZoneRec) (s : State) : (s.updZone z f).supply = s.supply := rfl
@[simp] theorem State.updZone_pending (z : Zone) (f : ZoneRec → ZoneRec) (s : State) : (s.updZone z f).pending = s.pending := rfl
@[simp] theorem State.updZone_port (z : Zone) (f : ZoneRec → ZoneRec) (s : State) (q : PortId) : (s.updZone z f).port q = s.port q := rfl
@[simp] theorem State.updZone_line (z : Zone) (f : ZoneRec → ZoneRec) (s : State) (l : LineNo) : (s.updZone z f).line l = s.line l := rfl
@[simp] theorem State.updZone_image (z : Zone) (f : ZoneRec → ZoneRec) (s : State) : (s.updZone z f).image = s.image := rfl
@[simp] theorem State.updZone_now (z : Zone) (f : ZoneRec → ZoneRec) (s : State) : (s.updZone z f).now = s.now := rfl

/-! ### `State.updTrip` -/

@[simp] theorem State.updTrip_tick (k : OutNo) (f : TripOut → TripOut) (s : State) : (s.updTrip k f).tick = s.tick := rfl
@[simp] theorem State.updTrip_clock (k : OutNo) (f : TripOut → TripOut) (s : State) : (s.updTrip k f).clock = s.clock := rfl
@[simp] theorem State.updTrip_lines (k : OutNo) (f : TripOut → TripOut) (s : State) : (s.updTrip k f).lines = s.lines := rfl
@[simp] theorem State.updTrip_stations (k : OutNo) (f : TripOut → TripOut) (s : State) : (s.updTrip k f).stations = s.stations := rfl
@[simp] theorem State.updTrip_delivery (k : OutNo) (f : TripOut → TripOut) (s : State) : (s.updTrip k f).delivery = s.delivery := rfl
@[simp] theorem State.updTrip_points (k : OutNo) (f : TripOut → TripOut) (s : State) : (s.updTrip k f).points = s.points := rfl
@[simp] theorem State.updTrip_zones (k : OutNo) (f : TripOut → TripOut) (s : State) : (s.updTrip k f).zones = s.zones := rfl
@[simp] theorem State.updTrip_alarms (k : OutNo) (f : TripOut → TripOut) (s : State) : (s.updTrip k f).alarms = s.alarms := rfl
@[simp] theorem State.updTrip_roster (k : OutNo) (f : TripOut → TripOut) (s : State) : (s.updTrip k f).roster = s.roster := rfl
@[simp] theorem State.updTrip_calls (k : OutNo) (f : TripOut → TripOut) (s : State) : (s.updTrip k f).calls = s.calls := rfl
@[simp] theorem State.updTrip_segments (k : OutNo) (f : TripOut → TripOut) (s : State) : (s.updTrip k f).segments = s.segments := rfl
@[simp] theorem State.updTrip_trucks (k : OutNo) (f : TripOut → TripOut) (s : State) : (s.updTrip k f).trucks = s.trucks := rfl
@[simp] theorem State.updTrip_road (k : OutNo) (f : TripOut → TripOut) (s : State) : (s.updTrip k f).road = s.road := rfl
@[simp] theorem State.updTrip_refuges (k : OutNo) (f : TripOut → TripOut) (s : State) : (s.updTrip k f).refuges = s.refuges := rfl
@[simp] theorem State.updTrip_withdrawal (k : OutNo) (f : TripOut → TripOut) (s : State) : (s.updTrip k f).withdrawal = s.withdrawal := rfl
@[simp] theorem State.updTrip_entries (k : OutNo) (f : TripOut → TripOut) (s : State) : (s.updTrip k f).entries = s.entries := rfl
@[simp] theorem State.updTrip_signals (k : OutNo) (f : TripOut → TripOut) (s : State) : (s.updTrip k f).signals = s.signals := rfl
@[simp] theorem State.updTrip_faultLine (k : OutNo) (f : TripOut → TripOut) (s : State) : (s.updTrip k f).faultLine = s.faultLine := rfl
@[simp] theorem State.updTrip_ports (k : OutNo) (f : TripOut → TripOut) (s : State) : (s.updTrip k f).ports = s.ports := rfl
@[simp] theorem State.updTrip_settings (k : OutNo) (f : TripOut → TripOut) (s : State) : (s.updTrip k f).settings = s.settings := rfl
@[simp] theorem State.updTrip_monitor (k : OutNo) (f : TripOut → TripOut) (s : State) : (s.updTrip k f).monitor = s.monitor := rfl
@[simp] theorem State.updTrip_supply (k : OutNo) (f : TripOut → TripOut) (s : State) : (s.updTrip k f).supply = s.supply := rfl
@[simp] theorem State.updTrip_pending (k : OutNo) (f : TripOut → TripOut) (s : State) : (s.updTrip k f).pending = s.pending := rfl
@[simp] theorem State.updTrip_port (k : OutNo) (f : TripOut → TripOut) (s : State) (q : PortId) : (s.updTrip k f).port q = s.port q := rfl
@[simp] theorem State.updTrip_line (k : OutNo) (f : TripOut → TripOut) (s : State) (l : LineNo) : (s.updTrip k f).line l = s.line l := rfl
@[simp] theorem State.updTrip_image (k : OutNo) (f : TripOut → TripOut) (s : State) : (s.updTrip k f).image = s.image := rfl
@[simp] theorem State.updTrip_now (k : OutNo) (f : TripOut → TripOut) (s : State) : (s.updTrip k f).now = s.now := rfl

/-! ### `State.updSegment` -/

@[simp] theorem State.updSegment_tick (k : SegNo) (f : Segment → Segment) (s : State) : (s.updSegment k f).tick = s.tick := rfl
@[simp] theorem State.updSegment_clock (k : SegNo) (f : Segment → Segment) (s : State) : (s.updSegment k f).clock = s.clock := rfl
@[simp] theorem State.updSegment_lines (k : SegNo) (f : Segment → Segment) (s : State) : (s.updSegment k f).lines = s.lines := rfl
@[simp] theorem State.updSegment_stations (k : SegNo) (f : Segment → Segment) (s : State) : (s.updSegment k f).stations = s.stations := rfl
@[simp] theorem State.updSegment_delivery (k : SegNo) (f : Segment → Segment) (s : State) : (s.updSegment k f).delivery = s.delivery := rfl
@[simp] theorem State.updSegment_points (k : SegNo) (f : Segment → Segment) (s : State) : (s.updSegment k f).points = s.points := rfl
@[simp] theorem State.updSegment_zones (k : SegNo) (f : Segment → Segment) (s : State) : (s.updSegment k f).zones = s.zones := rfl
@[simp] theorem State.updSegment_alarms (k : SegNo) (f : Segment → Segment) (s : State) : (s.updSegment k f).alarms = s.alarms := rfl
@[simp] theorem State.updSegment_trips (k : SegNo) (f : Segment → Segment) (s : State) : (s.updSegment k f).trips = s.trips := rfl
@[simp] theorem State.updSegment_roster (k : SegNo) (f : Segment → Segment) (s : State) : (s.updSegment k f).roster = s.roster := rfl
@[simp] theorem State.updSegment_calls (k : SegNo) (f : Segment → Segment) (s : State) : (s.updSegment k f).calls = s.calls := rfl
@[simp] theorem State.updSegment_trucks (k : SegNo) (f : Segment → Segment) (s : State) : (s.updSegment k f).trucks = s.trucks := rfl
@[simp] theorem State.updSegment_road (k : SegNo) (f : Segment → Segment) (s : State) : (s.updSegment k f).road = s.road := rfl
@[simp] theorem State.updSegment_refuges (k : SegNo) (f : Segment → Segment) (s : State) : (s.updSegment k f).refuges = s.refuges := rfl
@[simp] theorem State.updSegment_withdrawal (k : SegNo) (f : Segment → Segment) (s : State) : (s.updSegment k f).withdrawal = s.withdrawal := rfl
@[simp] theorem State.updSegment_entries (k : SegNo) (f : Segment → Segment) (s : State) : (s.updSegment k f).entries = s.entries := rfl
@[simp] theorem State.updSegment_signals (k : SegNo) (f : Segment → Segment) (s : State) : (s.updSegment k f).signals = s.signals := rfl
@[simp] theorem State.updSegment_faultLine (k : SegNo) (f : Segment → Segment) (s : State) : (s.updSegment k f).faultLine = s.faultLine := rfl
@[simp] theorem State.updSegment_ports (k : SegNo) (f : Segment → Segment) (s : State) : (s.updSegment k f).ports = s.ports := rfl
@[simp] theorem State.updSegment_settings (k : SegNo) (f : Segment → Segment) (s : State) : (s.updSegment k f).settings = s.settings := rfl
@[simp] theorem State.updSegment_monitor (k : SegNo) (f : Segment → Segment) (s : State) : (s.updSegment k f).monitor = s.monitor := rfl
@[simp] theorem State.updSegment_supply (k : SegNo) (f : Segment → Segment) (s : State) : (s.updSegment k f).supply = s.supply := rfl
@[simp] theorem State.updSegment_pending (k : SegNo) (f : Segment → Segment) (s : State) : (s.updSegment k f).pending = s.pending := rfl
@[simp] theorem State.updSegment_port (k : SegNo) (f : Segment → Segment) (s : State) (q : PortId) : (s.updSegment k f).port q = s.port q := rfl
@[simp] theorem State.updSegment_line (k : SegNo) (f : Segment → Segment) (s : State) (l : LineNo) : (s.updSegment k f).line l = s.line l := rfl
@[simp] theorem State.updSegment_image (k : SegNo) (f : Segment → Segment) (s : State) : (s.updSegment k f).image = s.image := rfl
@[simp] theorem State.updSegment_now (k : SegNo) (f : Segment → Segment) (s : State) : (s.updSegment k f).now = s.now := rfl

/-! ### `State.updTruck` -/

@[simp] theorem State.updTruck_tick (t : TruckNo) (f : TruckRec → TruckRec) (s : State) : (s.updTruck t f).tick = s.tick := rfl
@[simp] theorem State.updTruck_clock (t : TruckNo) (f : TruckRec → TruckRec) (s : State) : (s.updTruck t f).clock = s.clock := rfl
@[simp] theorem State.updTruck_lines (t : TruckNo) (f : TruckRec → TruckRec) (s : State) : (s.updTruck t f).lines = s.lines := rfl
@[simp] theorem State.updTruck_stations (t : TruckNo) (f : TruckRec → TruckRec) (s : State) : (s.updTruck t f).stations = s.stations := rfl
@[simp] theorem State.updTruck_delivery (t : TruckNo) (f : TruckRec → TruckRec) (s : State) : (s.updTruck t f).delivery = s.delivery := rfl
@[simp] theorem State.updTruck_points (t : TruckNo) (f : TruckRec → TruckRec) (s : State) : (s.updTruck t f).points = s.points := rfl
@[simp] theorem State.updTruck_zones (t : TruckNo) (f : TruckRec → TruckRec) (s : State) : (s.updTruck t f).zones = s.zones := rfl
@[simp] theorem State.updTruck_alarms (t : TruckNo) (f : TruckRec → TruckRec) (s : State) : (s.updTruck t f).alarms = s.alarms := rfl
@[simp] theorem State.updTruck_trips (t : TruckNo) (f : TruckRec → TruckRec) (s : State) : (s.updTruck t f).trips = s.trips := rfl
@[simp] theorem State.updTruck_roster (t : TruckNo) (f : TruckRec → TruckRec) (s : State) : (s.updTruck t f).roster = s.roster := rfl
@[simp] theorem State.updTruck_calls (t : TruckNo) (f : TruckRec → TruckRec) (s : State) : (s.updTruck t f).calls = s.calls := rfl
@[simp] theorem State.updTruck_segments (t : TruckNo) (f : TruckRec → TruckRec) (s : State) : (s.updTruck t f).segments = s.segments := rfl
@[simp] theorem State.updTruck_road (t : TruckNo) (f : TruckRec → TruckRec) (s : State) : (s.updTruck t f).road = s.road := rfl
@[simp] theorem State.updTruck_refuges (t : TruckNo) (f : TruckRec → TruckRec) (s : State) : (s.updTruck t f).refuges = s.refuges := rfl
@[simp] theorem State.updTruck_withdrawal (t : TruckNo) (f : TruckRec → TruckRec) (s : State) : (s.updTruck t f).withdrawal = s.withdrawal := rfl
@[simp] theorem State.updTruck_entries (t : TruckNo) (f : TruckRec → TruckRec) (s : State) : (s.updTruck t f).entries = s.entries := rfl
@[simp] theorem State.updTruck_signals (t : TruckNo) (f : TruckRec → TruckRec) (s : State) : (s.updTruck t f).signals = s.signals := rfl
@[simp] theorem State.updTruck_faultLine (t : TruckNo) (f : TruckRec → TruckRec) (s : State) : (s.updTruck t f).faultLine = s.faultLine := rfl
@[simp] theorem State.updTruck_ports (t : TruckNo) (f : TruckRec → TruckRec) (s : State) : (s.updTruck t f).ports = s.ports := rfl
@[simp] theorem State.updTruck_settings (t : TruckNo) (f : TruckRec → TruckRec) (s : State) : (s.updTruck t f).settings = s.settings := rfl
@[simp] theorem State.updTruck_monitor (t : TruckNo) (f : TruckRec → TruckRec) (s : State) : (s.updTruck t f).monitor = s.monitor := rfl
@[simp] theorem State.updTruck_supply (t : TruckNo) (f : TruckRec → TruckRec) (s : State) : (s.updTruck t f).supply = s.supply := rfl
@[simp] theorem State.updTruck_pending (t : TruckNo) (f : TruckRec → TruckRec) (s : State) : (s.updTruck t f).pending = s.pending := rfl
@[simp] theorem State.updTruck_port (t : TruckNo) (f : TruckRec → TruckRec) (s : State) (q : PortId) : (s.updTruck t f).port q = s.port q := rfl
@[simp] theorem State.updTruck_line (t : TruckNo) (f : TruckRec → TruckRec) (s : State) (l : LineNo) : (s.updTruck t f).line l = s.line l := rfl
@[simp] theorem State.updTruck_image (t : TruckNo) (f : TruckRec → TruckRec) (s : State) : (s.updTruck t f).image = s.image := rfl
@[simp] theorem State.updTruck_now (t : TruckNo) (f : TruckRec → TruckRec) (s : State) : (s.updTruck t f).now = s.now := rfl

/-! ### `State.updRefuge` -/

@[simp] theorem State.updRefuge_tick (n : RefugeNo) (f : RefugeRec → RefugeRec) (s : State) : (s.updRefuge n f).tick = s.tick := rfl
@[simp] theorem State.updRefuge_clock (n : RefugeNo) (f : RefugeRec → RefugeRec) (s : State) : (s.updRefuge n f).clock = s.clock := rfl
@[simp] theorem State.updRefuge_lines (n : RefugeNo) (f : RefugeRec → RefugeRec) (s : State) : (s.updRefuge n f).lines = s.lines := rfl
@[simp] theorem State.updRefuge_stations (n : RefugeNo) (f : RefugeRec → RefugeRec) (s : State) : (s.updRefuge n f).stations = s.stations := rfl
@[simp] theorem State.updRefuge_delivery (n : RefugeNo) (f : RefugeRec → RefugeRec) (s : State) : (s.updRefuge n f).delivery = s.delivery := rfl
@[simp] theorem State.updRefuge_points (n : RefugeNo) (f : RefugeRec → RefugeRec) (s : State) : (s.updRefuge n f).points = s.points := rfl
@[simp] theorem State.updRefuge_zones (n : RefugeNo) (f : RefugeRec → RefugeRec) (s : State) : (s.updRefuge n f).zones = s.zones := rfl
@[simp] theorem State.updRefuge_alarms (n : RefugeNo) (f : RefugeRec → RefugeRec) (s : State) : (s.updRefuge n f).alarms = s.alarms := rfl
@[simp] theorem State.updRefuge_trips (n : RefugeNo) (f : RefugeRec → RefugeRec) (s : State) : (s.updRefuge n f).trips = s.trips := rfl
@[simp] theorem State.updRefuge_roster (n : RefugeNo) (f : RefugeRec → RefugeRec) (s : State) : (s.updRefuge n f).roster = s.roster := rfl
@[simp] theorem State.updRefuge_calls (n : RefugeNo) (f : RefugeRec → RefugeRec) (s : State) : (s.updRefuge n f).calls = s.calls := rfl
@[simp] theorem State.updRefuge_segments (n : RefugeNo) (f : RefugeRec → RefugeRec) (s : State) : (s.updRefuge n f).segments = s.segments := rfl
@[simp] theorem State.updRefuge_trucks (n : RefugeNo) (f : RefugeRec → RefugeRec) (s : State) : (s.updRefuge n f).trucks = s.trucks := rfl
@[simp] theorem State.updRefuge_road (n : RefugeNo) (f : RefugeRec → RefugeRec) (s : State) : (s.updRefuge n f).road = s.road := rfl
@[simp] theorem State.updRefuge_withdrawal (n : RefugeNo) (f : RefugeRec → RefugeRec) (s : State) : (s.updRefuge n f).withdrawal = s.withdrawal := rfl
@[simp] theorem State.updRefuge_entries (n : RefugeNo) (f : RefugeRec → RefugeRec) (s : State) : (s.updRefuge n f).entries = s.entries := rfl
@[simp] theorem State.updRefuge_signals (n : RefugeNo) (f : RefugeRec → RefugeRec) (s : State) : (s.updRefuge n f).signals = s.signals := rfl
@[simp] theorem State.updRefuge_faultLine (n : RefugeNo) (f : RefugeRec → RefugeRec) (s : State) : (s.updRefuge n f).faultLine = s.faultLine := rfl
@[simp] theorem State.updRefuge_ports (n : RefugeNo) (f : RefugeRec → RefugeRec) (s : State) : (s.updRefuge n f).ports = s.ports := rfl
@[simp] theorem State.updRefuge_settings (n : RefugeNo) (f : RefugeRec → RefugeRec) (s : State) : (s.updRefuge n f).settings = s.settings := rfl
@[simp] theorem State.updRefuge_monitor (n : RefugeNo) (f : RefugeRec → RefugeRec) (s : State) : (s.updRefuge n f).monitor = s.monitor := rfl
@[simp] theorem State.updRefuge_supply (n : RefugeNo) (f : RefugeRec → RefugeRec) (s : State) : (s.updRefuge n f).supply = s.supply := rfl
@[simp] theorem State.updRefuge_pending (n : RefugeNo) (f : RefugeRec → RefugeRec) (s : State) : (s.updRefuge n f).pending = s.pending := rfl
@[simp] theorem State.updRefuge_port (n : RefugeNo) (f : RefugeRec → RefugeRec) (s : State) (q : PortId) : (s.updRefuge n f).port q = s.port q := rfl
@[simp] theorem State.updRefuge_line (n : RefugeNo) (f : RefugeRec → RefugeRec) (s : State) (l : LineNo) : (s.updRefuge n f).line l = s.line l := rfl
@[simp] theorem State.updRefuge_image (n : RefugeNo) (f : RefugeRec → RefugeRec) (s : State) : (s.updRefuge n f).image = s.image := rfl
@[simp] theorem State.updRefuge_now (n : RefugeNo) (f : RefugeRec → RefugeRec) (s : State) : (s.updRefuge n f).now = s.now := rfl

/-! ### `State.updEntry` -/

@[simp] theorem State.updEntry_tick (n : EntryNo) (f : EntryRt → EntryRt) (s : State) : (s.updEntry n f).tick = s.tick := rfl
@[simp] theorem State.updEntry_clock (n : EntryNo) (f : EntryRt → EntryRt) (s : State) : (s.updEntry n f).clock = s.clock := rfl
@[simp] theorem State.updEntry_lines (n : EntryNo) (f : EntryRt → EntryRt) (s : State) : (s.updEntry n f).lines = s.lines := rfl
@[simp] theorem State.updEntry_stations (n : EntryNo) (f : EntryRt → EntryRt) (s : State) : (s.updEntry n f).stations = s.stations := rfl
@[simp] theorem State.updEntry_delivery (n : EntryNo) (f : EntryRt → EntryRt) (s : State) : (s.updEntry n f).delivery = s.delivery := rfl
@[simp] theorem State.updEntry_points (n : EntryNo) (f : EntryRt → EntryRt) (s : State) : (s.updEntry n f).points = s.points := rfl
@[simp] theorem State.updEntry_zones (n : EntryNo) (f : EntryRt → EntryRt) (s : State) : (s.updEntry n f).zones = s.zones := rfl
@[simp] theorem State.updEntry_alarms (n : EntryNo) (f : EntryRt → EntryRt) (s : State) : (s.updEntry n f).alarms = s.alarms := rfl
@[simp] theorem State.updEntry_trips (n : EntryNo) (f : EntryRt → EntryRt) (s : State) : (s.updEntry n f).trips = s.trips := rfl
@[simp] theorem State.updEntry_roster (n : EntryNo) (f : EntryRt → EntryRt) (s : State) : (s.updEntry n f).roster = s.roster := rfl
@[simp] theorem State.updEntry_calls (n : EntryNo) (f : EntryRt → EntryRt) (s : State) : (s.updEntry n f).calls = s.calls := rfl
@[simp] theorem State.updEntry_segments (n : EntryNo) (f : EntryRt → EntryRt) (s : State) : (s.updEntry n f).segments = s.segments := rfl
@[simp] theorem State.updEntry_trucks (n : EntryNo) (f : EntryRt → EntryRt) (s : State) : (s.updEntry n f).trucks = s.trucks := rfl
@[simp] theorem State.updEntry_road (n : EntryNo) (f : EntryRt → EntryRt) (s : State) : (s.updEntry n f).road = s.road := rfl
@[simp] theorem State.updEntry_refuges (n : EntryNo) (f : EntryRt → EntryRt) (s : State) : (s.updEntry n f).refuges = s.refuges := rfl
@[simp] theorem State.updEntry_withdrawal (n : EntryNo) (f : EntryRt → EntryRt) (s : State) : (s.updEntry n f).withdrawal = s.withdrawal := rfl
@[simp] theorem State.updEntry_signals (n : EntryNo) (f : EntryRt → EntryRt) (s : State) : (s.updEntry n f).signals = s.signals := rfl
@[simp] theorem State.updEntry_faultLine (n : EntryNo) (f : EntryRt → EntryRt) (s : State) : (s.updEntry n f).faultLine = s.faultLine := rfl
@[simp] theorem State.updEntry_ports (n : EntryNo) (f : EntryRt → EntryRt) (s : State) : (s.updEntry n f).ports = s.ports := rfl
@[simp] theorem State.updEntry_settings (n : EntryNo) (f : EntryRt → EntryRt) (s : State) : (s.updEntry n f).settings = s.settings := rfl
@[simp] theorem State.updEntry_monitor (n : EntryNo) (f : EntryRt → EntryRt) (s : State) : (s.updEntry n f).monitor = s.monitor := rfl
@[simp] theorem State.updEntry_supply (n : EntryNo) (f : EntryRt → EntryRt) (s : State) : (s.updEntry n f).supply = s.supply := rfl
@[simp] theorem State.updEntry_pending (n : EntryNo) (f : EntryRt → EntryRt) (s : State) : (s.updEntry n f).pending = s.pending := rfl
@[simp] theorem State.updEntry_port (n : EntryNo) (f : EntryRt → EntryRt) (s : State) (q : PortId) : (s.updEntry n f).port q = s.port q := rfl
@[simp] theorem State.updEntry_line (n : EntryNo) (f : EntryRt → EntryRt) (s : State) (l : LineNo) : (s.updEntry n f).line l = s.line l := rfl
@[simp] theorem State.updEntry_image (n : EntryNo) (f : EntryRt → EntryRt) (s : State) : (s.updEntry n f).image = s.image := rfl
@[simp] theorem State.updEntry_now (n : EntryNo) (f : EntryRt → EntryRt) (s : State) : (s.updEntry n f).now = s.now := rfl

/-! ### `State.updSignal` -/

@[simp] theorem State.updSignal_tick (k : OutNo) (f : SignalOut → SignalOut) (s : State) : (s.updSignal k f).tick = s.tick := rfl
@[simp] theorem State.updSignal_clock (k : OutNo) (f : SignalOut → SignalOut) (s : State) : (s.updSignal k f).clock = s.clock := rfl
@[simp] theorem State.updSignal_lines (k : OutNo) (f : SignalOut → SignalOut) (s : State) : (s.updSignal k f).lines = s.lines := rfl
@[simp] theorem State.updSignal_stations (k : OutNo) (f : SignalOut → SignalOut) (s : State) : (s.updSignal k f).stations = s.stations := rfl
@[simp] theorem State.updSignal_delivery (k : OutNo) (f : SignalOut → SignalOut) (s : State) : (s.updSignal k f).delivery = s.delivery := rfl
@[simp] theorem State.updSignal_points (k : OutNo) (f : SignalOut → SignalOut) (s : State) : (s.updSignal k f).points = s.points := rfl
@[simp] theorem State.updSignal_zones (k : OutNo) (f : SignalOut → SignalOut) (s : State) : (s.updSignal k f).zones = s.zones := rfl
@[simp] theorem State.updSignal_alarms (k : OutNo) (f : SignalOut → SignalOut) (s : State) : (s.updSignal k f).alarms = s.alarms := rfl
@[simp] theorem State.updSignal_trips (k : OutNo) (f : SignalOut → SignalOut) (s : State) : (s.updSignal k f).trips = s.trips := rfl
@[simp] theorem State.updSignal_roster (k : OutNo) (f : SignalOut → SignalOut) (s : State) : (s.updSignal k f).roster = s.roster := rfl
@[simp] theorem State.updSignal_calls (k : OutNo) (f : SignalOut → SignalOut) (s : State) : (s.updSignal k f).calls = s.calls := rfl
@[simp] theorem State.updSignal_segments (k : OutNo) (f : SignalOut → SignalOut) (s : State) : (s.updSignal k f).segments = s.segments := rfl
@[simp] theorem State.updSignal_trucks (k : OutNo) (f : SignalOut → SignalOut) (s : State) : (s.updSignal k f).trucks = s.trucks := rfl
@[simp] theorem State.updSignal_road (k : OutNo) (f : SignalOut → SignalOut) (s : State) : (s.updSignal k f).road = s.road := rfl
@[simp] theorem State.updSignal_refuges (k : OutNo) (f : SignalOut → SignalOut) (s : State) : (s.updSignal k f).refuges = s.refuges := rfl
@[simp] theorem State.updSignal_withdrawal (k : OutNo) (f : SignalOut → SignalOut) (s : State) : (s.updSignal k f).withdrawal = s.withdrawal := rfl
@[simp] theorem State.updSignal_entries (k : OutNo) (f : SignalOut → SignalOut) (s : State) : (s.updSignal k f).entries = s.entries := rfl
@[simp] theorem State.updSignal_faultLine (k : OutNo) (f : SignalOut → SignalOut) (s : State) : (s.updSignal k f).faultLine = s.faultLine := rfl
@[simp] theorem State.updSignal_ports (k : OutNo) (f : SignalOut → SignalOut) (s : State) : (s.updSignal k f).ports = s.ports := rfl
@[simp] theorem State.updSignal_settings (k : OutNo) (f : SignalOut → SignalOut) (s : State) : (s.updSignal k f).settings = s.settings := rfl
@[simp] theorem State.updSignal_monitor (k : OutNo) (f : SignalOut → SignalOut) (s : State) : (s.updSignal k f).monitor = s.monitor := rfl
@[simp] theorem State.updSignal_supply (k : OutNo) (f : SignalOut → SignalOut) (s : State) : (s.updSignal k f).supply = s.supply := rfl
@[simp] theorem State.updSignal_pending (k : OutNo) (f : SignalOut → SignalOut) (s : State) : (s.updSignal k f).pending = s.pending := rfl
@[simp] theorem State.updSignal_port (k : OutNo) (f : SignalOut → SignalOut) (s : State) (q : PortId) : (s.updSignal k f).port q = s.port q := rfl
@[simp] theorem State.updSignal_line (k : OutNo) (f : SignalOut → SignalOut) (s : State) (l : LineNo) : (s.updSignal k f).line l = s.line l := rfl
@[simp] theorem State.updSignal_image (k : OutNo) (f : SignalOut → SignalOut) (s : State) : (s.updSignal k f).image = s.image := rfl
@[simp] theorem State.updSignal_now (k : OutNo) (f : SignalOut → SignalOut) (s : State) : (s.updSignal k f).now = s.now := rfl

/-! ### `State.updMiner` -/

@[simp] theorem State.updMiner_tick (t : Tag) (f : RosterRec → RosterRec) (s : State) : (s.updMiner t f).tick = s.tick := rfl
@[simp] theorem State.updMiner_clock (t : Tag) (f : RosterRec → RosterRec) (s : State) : (s.updMiner t f).clock = s.clock := rfl
@[simp] theorem State.updMiner_lines (t : Tag) (f : RosterRec → RosterRec) (s : State) : (s.updMiner t f).lines = s.lines := rfl
@[simp] theorem State.updMiner_stations (t : Tag) (f : RosterRec → RosterRec) (s : State) : (s.updMiner t f).stations = s.stations := rfl
@[simp] theorem State.updMiner_delivery (t : Tag) (f : RosterRec → RosterRec) (s : State) : (s.updMiner t f).delivery = s.delivery := rfl
@[simp] theorem State.updMiner_points (t : Tag) (f : RosterRec → RosterRec) (s : State) : (s.updMiner t f).points = s.points := rfl
@[simp] theorem State.updMiner_zones (t : Tag) (f : RosterRec → RosterRec) (s : State) : (s.updMiner t f).zones = s.zones := rfl
@[simp] theorem State.updMiner_alarms (t : Tag) (f : RosterRec → RosterRec) (s : State) : (s.updMiner t f).alarms = s.alarms := rfl
@[simp] theorem State.updMiner_trips (t : Tag) (f : RosterRec → RosterRec) (s : State) : (s.updMiner t f).trips = s.trips := rfl
@[simp] theorem State.updMiner_calls (t : Tag) (f : RosterRec → RosterRec) (s : State) : (s.updMiner t f).calls = s.calls := rfl
@[simp] theorem State.updMiner_segments (t : Tag) (f : RosterRec → RosterRec) (s : State) : (s.updMiner t f).segments = s.segments := rfl
@[simp] theorem State.updMiner_trucks (t : Tag) (f : RosterRec → RosterRec) (s : State) : (s.updMiner t f).trucks = s.trucks := rfl
@[simp] theorem State.updMiner_road (t : Tag) (f : RosterRec → RosterRec) (s : State) : (s.updMiner t f).road = s.road := rfl
@[simp] theorem State.updMiner_refuges (t : Tag) (f : RosterRec → RosterRec) (s : State) : (s.updMiner t f).refuges = s.refuges := rfl
@[simp] theorem State.updMiner_withdrawal (t : Tag) (f : RosterRec → RosterRec) (s : State) : (s.updMiner t f).withdrawal = s.withdrawal := rfl
@[simp] theorem State.updMiner_entries (t : Tag) (f : RosterRec → RosterRec) (s : State) : (s.updMiner t f).entries = s.entries := rfl
@[simp] theorem State.updMiner_signals (t : Tag) (f : RosterRec → RosterRec) (s : State) : (s.updMiner t f).signals = s.signals := rfl
@[simp] theorem State.updMiner_faultLine (t : Tag) (f : RosterRec → RosterRec) (s : State) : (s.updMiner t f).faultLine = s.faultLine := rfl
@[simp] theorem State.updMiner_ports (t : Tag) (f : RosterRec → RosterRec) (s : State) : (s.updMiner t f).ports = s.ports := rfl
@[simp] theorem State.updMiner_settings (t : Tag) (f : RosterRec → RosterRec) (s : State) : (s.updMiner t f).settings = s.settings := rfl
@[simp] theorem State.updMiner_monitor (t : Tag) (f : RosterRec → RosterRec) (s : State) : (s.updMiner t f).monitor = s.monitor := rfl
@[simp] theorem State.updMiner_supply (t : Tag) (f : RosterRec → RosterRec) (s : State) : (s.updMiner t f).supply = s.supply := rfl
@[simp] theorem State.updMiner_pending (t : Tag) (f : RosterRec → RosterRec) (s : State) : (s.updMiner t f).pending = s.pending := rfl
@[simp] theorem State.updMiner_port (t : Tag) (f : RosterRec → RosterRec) (s : State) (q : PortId) : (s.updMiner t f).port q = s.port q := rfl
@[simp] theorem State.updMiner_line (t : Tag) (f : RosterRec → RosterRec) (s : State) (l : LineNo) : (s.updMiner t f).line l = s.line l := rfl
@[simp] theorem State.updMiner_image (t : Tag) (f : RosterRec → RosterRec) (s : State) : (s.updMiner t f).image = s.image := rfl
@[simp] theorem State.updMiner_now (t : Tag) (f : RosterRec → RosterRec) (s : State) : (s.updMiner t f).now = s.now := rfl

/-! ### `State.setRecords` -/

@[simp] theorem State.setRecords_tick (rs : List RosterRec) (s : State) : (s.setRecords rs).tick = s.tick := rfl
@[simp] theorem State.setRecords_clock (rs : List RosterRec) (s : State) : (s.setRecords rs).clock = s.clock := rfl
@[simp] theorem State.setRecords_lines (rs : List RosterRec) (s : State) : (s.setRecords rs).lines = s.lines := rfl
@[simp] theorem State.setRecords_stations (rs : List RosterRec) (s : State) : (s.setRecords rs).stations = s.stations := rfl
@[simp] theorem State.setRecords_delivery (rs : List RosterRec) (s : State) : (s.setRecords rs).delivery = s.delivery := rfl
@[simp] theorem State.setRecords_points (rs : List RosterRec) (s : State) : (s.setRecords rs).points = s.points := rfl
@[simp] theorem State.setRecords_zones (rs : List RosterRec) (s : State) : (s.setRecords rs).zones = s.zones := rfl
@[simp] theorem State.setRecords_alarms (rs : List RosterRec) (s : State) : (s.setRecords rs).alarms = s.alarms := rfl
@[simp] theorem State.setRecords_trips (rs : List RosterRec) (s : State) : (s.setRecords rs).trips = s.trips := rfl
@[simp] theorem State.setRecords_calls (rs : List RosterRec) (s : State) : (s.setRecords rs).calls = s.calls := rfl
@[simp] theorem State.setRecords_segments (rs : List RosterRec) (s : State) : (s.setRecords rs).segments = s.segments := rfl
@[simp] theorem State.setRecords_trucks (rs : List RosterRec) (s : State) : (s.setRecords rs).trucks = s.trucks := rfl
@[simp] theorem State.setRecords_road (rs : List RosterRec) (s : State) : (s.setRecords rs).road = s.road := rfl
@[simp] theorem State.setRecords_refuges (rs : List RosterRec) (s : State) : (s.setRecords rs).refuges = s.refuges := rfl
@[simp] theorem State.setRecords_withdrawal (rs : List RosterRec) (s : State) : (s.setRecords rs).withdrawal = s.withdrawal := rfl
@[simp] theorem State.setRecords_entries (rs : List RosterRec) (s : State) : (s.setRecords rs).entries = s.entries := rfl
@[simp] theorem State.setRecords_signals (rs : List RosterRec) (s : State) : (s.setRecords rs).signals = s.signals := rfl
@[simp] theorem State.setRecords_faultLine (rs : List RosterRec) (s : State) : (s.setRecords rs).faultLine = s.faultLine := rfl
@[simp] theorem State.setRecords_ports (rs : List RosterRec) (s : State) : (s.setRecords rs).ports = s.ports := rfl
@[simp] theorem State.setRecords_settings (rs : List RosterRec) (s : State) : (s.setRecords rs).settings = s.settings := rfl
@[simp] theorem State.setRecords_monitor (rs : List RosterRec) (s : State) : (s.setRecords rs).monitor = s.monitor := rfl
@[simp] theorem State.setRecords_supply (rs : List RosterRec) (s : State) : (s.setRecords rs).supply = s.supply := rfl
@[simp] theorem State.setRecords_pending (rs : List RosterRec) (s : State) : (s.setRecords rs).pending = s.pending := rfl
@[simp] theorem State.setRecords_port (rs : List RosterRec) (s : State) (q : PortId) : (s.setRecords rs).port q = s.port q := rfl
@[simp] theorem State.setRecords_line (rs : List RosterRec) (s : State) (l : LineNo) : (s.setRecords rs).line l = s.line l := rfl
@[simp] theorem State.setRecords_image (rs : List RosterRec) (s : State) : (s.setRecords rs).image = s.image := rfl
@[simp] theorem State.setRecords_now (rs : List RosterRec) (s : State) : (s.setRecords rs).now = s.now := rfl

/-! ### `State.setCalls` -/

@[simp] theorem State.setCalls_tick (cs : List Call) (s : State) : (s.setCalls cs).tick = s.tick := rfl
@[simp] theorem State.setCalls_clock (cs : List Call) (s : State) : (s.setCalls cs).clock = s.clock := rfl
@[simp] theorem State.setCalls_lines (cs : List Call) (s : State) : (s.setCalls cs).lines = s.lines := rfl
@[simp] theorem State.setCalls_stations (cs : List Call) (s : State) : (s.setCalls cs).stations = s.stations := rfl
@[simp] theorem State.setCalls_delivery (cs : List Call) (s : State) : (s.setCalls cs).delivery = s.delivery := rfl
@[simp] theorem State.setCalls_points (cs : List Call) (s : State) : (s.setCalls cs).points = s.points := rfl
@[simp] theorem State.setCalls_zones (cs : List Call) (s : State) : (s.setCalls cs).zones = s.zones := rfl
@[simp] theorem State.setCalls_alarms (cs : List Call) (s : State) : (s.setCalls cs).alarms = s.alarms := rfl
@[simp] theorem State.setCalls_trips (cs : List Call) (s : State) : (s.setCalls cs).trips = s.trips := rfl
@[simp] theorem State.setCalls_roster (cs : List Call) (s : State) : (s.setCalls cs).roster = s.roster := rfl
@[simp] theorem State.setCalls_segments (cs : List Call) (s : State) : (s.setCalls cs).segments = s.segments := rfl
@[simp] theorem State.setCalls_trucks (cs : List Call) (s : State) : (s.setCalls cs).trucks = s.trucks := rfl
@[simp] theorem State.setCalls_road (cs : List Call) (s : State) : (s.setCalls cs).road = s.road := rfl
@[simp] theorem State.setCalls_refuges (cs : List Call) (s : State) : (s.setCalls cs).refuges = s.refuges := rfl
@[simp] theorem State.setCalls_withdrawal (cs : List Call) (s : State) : (s.setCalls cs).withdrawal = s.withdrawal := rfl
@[simp] theorem State.setCalls_entries (cs : List Call) (s : State) : (s.setCalls cs).entries = s.entries := rfl
@[simp] theorem State.setCalls_signals (cs : List Call) (s : State) : (s.setCalls cs).signals = s.signals := rfl
@[simp] theorem State.setCalls_faultLine (cs : List Call) (s : State) : (s.setCalls cs).faultLine = s.faultLine := rfl
@[simp] theorem State.setCalls_ports (cs : List Call) (s : State) : (s.setCalls cs).ports = s.ports := rfl
@[simp] theorem State.setCalls_settings (cs : List Call) (s : State) : (s.setCalls cs).settings = s.settings := rfl
@[simp] theorem State.setCalls_monitor (cs : List Call) (s : State) : (s.setCalls cs).monitor = s.monitor := rfl
@[simp] theorem State.setCalls_supply (cs : List Call) (s : State) : (s.setCalls cs).supply = s.supply := rfl
@[simp] theorem State.setCalls_pending (cs : List Call) (s : State) : (s.setCalls cs).pending = s.pending := rfl
@[simp] theorem State.setCalls_port (cs : List Call) (s : State) (q : PortId) : (s.setCalls cs).port q = s.port q := rfl
@[simp] theorem State.setCalls_line (cs : List Call) (s : State) (l : LineNo) : (s.setCalls cs).line l = s.line l := rfl
@[simp] theorem State.setCalls_image (cs : List Call) (s : State) : (s.setCalls cs).image = s.image := rfl
@[simp] theorem State.setCalls_now (cs : List Call) (s : State) : (s.setCalls cs).now = s.now := rfl

/-! ### `State.updCall` -/

@[simp] theorem State.updCall_tick (n : Nat) (f : Call → Call) (s : State) : (s.updCall n f).tick = s.tick := rfl
@[simp] theorem State.updCall_clock (n : Nat) (f : Call → Call) (s : State) : (s.updCall n f).clock = s.clock := rfl
@[simp] theorem State.updCall_lines (n : Nat) (f : Call → Call) (s : State) : (s.updCall n f).lines = s.lines := rfl
@[simp] theorem State.updCall_stations (n : Nat) (f : Call → Call) (s : State) : (s.updCall n f).stations = s.stations := rfl
@[simp] theorem State.updCall_delivery (n : Nat) (f : Call → Call) (s : State) : (s.updCall n f).delivery = s.delivery := rfl
@[simp] theorem State.updCall_points (n : Nat) (f : Call → Call) (s : State) : (s.updCall n f).points = s.points := rfl
@[simp] theorem State.updCall_zones (n : Nat) (f : Call → Call) (s : State) : (s.updCall n f).zones = s.zones := rfl
@[simp] theorem State.updCall_alarms (n : Nat) (f : Call → Call) (s : State) : (s.updCall n f).alarms = s.alarms := rfl
@[simp] theorem State.updCall_trips (n : Nat) (f : Call → Call) (s : State) : (s.updCall n f).trips = s.trips := rfl
@[simp] theorem State.updCall_roster (n : Nat) (f : Call → Call) (s : State) : (s.updCall n f).roster = s.roster := rfl
@[simp] theorem State.updCall_segments (n : Nat) (f : Call → Call) (s : State) : (s.updCall n f).segments = s.segments := rfl
@[simp] theorem State.updCall_trucks (n : Nat) (f : Call → Call) (s : State) : (s.updCall n f).trucks = s.trucks := rfl
@[simp] theorem State.updCall_road (n : Nat) (f : Call → Call) (s : State) : (s.updCall n f).road = s.road := rfl
@[simp] theorem State.updCall_refuges (n : Nat) (f : Call → Call) (s : State) : (s.updCall n f).refuges = s.refuges := rfl
@[simp] theorem State.updCall_withdrawal (n : Nat) (f : Call → Call) (s : State) : (s.updCall n f).withdrawal = s.withdrawal := rfl
@[simp] theorem State.updCall_entries (n : Nat) (f : Call → Call) (s : State) : (s.updCall n f).entries = s.entries := rfl
@[simp] theorem State.updCall_signals (n : Nat) (f : Call → Call) (s : State) : (s.updCall n f).signals = s.signals := rfl
@[simp] theorem State.updCall_faultLine (n : Nat) (f : Call → Call) (s : State) : (s.updCall n f).faultLine = s.faultLine := rfl
@[simp] theorem State.updCall_ports (n : Nat) (f : Call → Call) (s : State) : (s.updCall n f).ports = s.ports := rfl
@[simp] theorem State.updCall_settings (n : Nat) (f : Call → Call) (s : State) : (s.updCall n f).settings = s.settings := rfl
@[simp] theorem State.updCall_monitor (n : Nat) (f : Call → Call) (s : State) : (s.updCall n f).monitor = s.monitor := rfl
@[simp] theorem State.updCall_supply (n : Nat) (f : Call → Call) (s : State) : (s.updCall n f).supply = s.supply := rfl
@[simp] theorem State.updCall_pending (n : Nat) (f : Call → Call) (s : State) : (s.updCall n f).pending = s.pending := rfl
@[simp] theorem State.updCall_port (n : Nat) (f : Call → Call) (s : State) (q : PortId) : (s.updCall n f).port q = s.port q := rfl
@[simp] theorem State.updCall_line (n : Nat) (f : Call → Call) (s : State) (l : LineNo) : (s.updCall n f).line l = s.line l := rfl
@[simp] theorem State.updCall_image (n : Nat) (f : Call → Call) (s : State) : (s.updCall n f).image = s.image := rfl
@[simp] theorem State.updCall_now (n : Nat) (f : Call → Call) (s : State) : (s.updCall n f).now = s.now := rfl

/-! ### `State.dropCall` -/

@[simp] theorem State.dropCall_tick (n : Nat) (s : State) : (s.dropCall n).tick = s.tick := rfl
@[simp] theorem State.dropCall_clock (n : Nat) (s : State) : (s.dropCall n).clock = s.clock := rfl
@[simp] theorem State.dropCall_lines (n : Nat) (s : State) : (s.dropCall n).lines = s.lines := rfl
@[simp] theorem State.dropCall_stations (n : Nat) (s : State) : (s.dropCall n).stations = s.stations := rfl
@[simp] theorem State.dropCall_delivery (n : Nat) (s : State) : (s.dropCall n).delivery = s.delivery := rfl
@[simp] theorem State.dropCall_points (n : Nat) (s : State) : (s.dropCall n).points = s.points := rfl
@[simp] theorem State.dropCall_zones (n : Nat) (s : State) : (s.dropCall n).zones = s.zones := rfl
@[simp] theorem State.dropCall_alarms (n : Nat) (s : State) : (s.dropCall n).alarms = s.alarms := rfl
@[simp] theorem State.dropCall_trips (n : Nat) (s : State) : (s.dropCall n).trips = s.trips := rfl
@[simp] theorem State.dropCall_roster (n : Nat) (s : State) : (s.dropCall n).roster = s.roster := rfl
@[simp] theorem State.dropCall_segments (n : Nat) (s : State) : (s.dropCall n).segments = s.segments := rfl
@[simp] theorem State.dropCall_trucks (n : Nat) (s : State) : (s.dropCall n).trucks = s.trucks := rfl
@[simp] theorem State.dropCall_road (n : Nat) (s : State) : (s.dropCall n).road = s.road := rfl
@[simp] theorem State.dropCall_refuges (n : Nat) (s : State) : (s.dropCall n).refuges = s.refuges := rfl
@[simp] theorem State.dropCall_withdrawal (n : Nat) (s : State) : (s.dropCall n).withdrawal = s.withdrawal := rfl
@[simp] theorem State.dropCall_entries (n : Nat) (s : State) : (s.dropCall n).entries = s.entries := rfl
@[simp] theorem State.dropCall_signals (n : Nat) (s : State) : (s.dropCall n).signals = s.signals := rfl
@[simp] theorem State.dropCall_faultLine (n : Nat) (s : State) : (s.dropCall n).faultLine = s.faultLine := rfl
@[simp] theorem State.dropCall_ports (n : Nat) (s : State) : (s.dropCall n).ports = s.ports := rfl
@[simp] theorem State.dropCall_settings (n : Nat) (s : State) : (s.dropCall n).settings = s.settings := rfl
@[simp] theorem State.dropCall_monitor (n : Nat) (s : State) : (s.dropCall n).monitor = s.monitor := rfl
@[simp] theorem State.dropCall_supply (n : Nat) (s : State) : (s.dropCall n).supply = s.supply := rfl
@[simp] theorem State.dropCall_pending (n : Nat) (s : State) : (s.dropCall n).pending = s.pending := rfl
@[simp] theorem State.dropCall_port (n : Nat) (s : State) (q : PortId) : (s.dropCall n).port q = s.port q := rfl
@[simp] theorem State.dropCall_line (n : Nat) (s : State) (l : LineNo) : (s.dropCall n).line l = s.line l := rfl
@[simp] theorem State.dropCall_image (n : Nat) (s : State) : (s.dropCall n).image = s.image := rfl
@[simp] theorem State.dropCall_now (n : Nat) (s : State) : (s.dropCall n).now = s.now := rfl

/-! ### `State.updAlarm` -/

@[simp] theorem State.updAlarm_tick (z : Zone) (g : Grade) (f : AlarmRec → AlarmRec) (s : State) : (s.updAlarm z g f).tick = s.tick := rfl
@[simp] theorem State.updAlarm_clock (z : Zone) (g : Grade) (f : AlarmRec → AlarmRec) (s : State) : (s.updAlarm z g f).clock = s.clock := rfl
@[simp] theorem State.updAlarm_lines (z : Zone) (g : Grade) (f : AlarmRec → AlarmRec) (s : State) : (s.updAlarm z g f).lines = s.lines := rfl
@[simp] theorem State.updAlarm_stations (z : Zone) (g : Grade) (f : AlarmRec → AlarmRec) (s : State) : (s.updAlarm z g f).stations = s.stations := rfl
@[simp] theorem State.updAlarm_delivery (z : Zone) (g : Grade) (f : AlarmRec → AlarmRec) (s : State) : (s.updAlarm z g f).delivery = s.delivery := rfl
@[simp] theorem State.updAlarm_points (z : Zone) (g : Grade) (f : AlarmRec → AlarmRec) (s : State) : (s.updAlarm z g f).points = s.points := rfl
@[simp] theorem State.updAlarm_zones (z : Zone) (g : Grade) (f : AlarmRec → AlarmRec) (s : State) : (s.updAlarm z g f).zones = s.zones := rfl
@[simp] theorem State.updAlarm_trips (z : Zone) (g : Grade) (f : AlarmRec → AlarmRec) (s : State) : (s.updAlarm z g f).trips = s.trips := rfl
@[simp] theorem State.updAlarm_roster (z : Zone) (g : Grade) (f : AlarmRec → AlarmRec) (s : State) : (s.updAlarm z g f).roster = s.roster := rfl
@[simp] theorem State.updAlarm_calls (z : Zone) (g : Grade) (f : AlarmRec → AlarmRec) (s : State) : (s.updAlarm z g f).calls = s.calls := rfl
@[simp] theorem State.updAlarm_segments (z : Zone) (g : Grade) (f : AlarmRec → AlarmRec) (s : State) : (s.updAlarm z g f).segments = s.segments := rfl
@[simp] theorem State.updAlarm_trucks (z : Zone) (g : Grade) (f : AlarmRec → AlarmRec) (s : State) : (s.updAlarm z g f).trucks = s.trucks := rfl
@[simp] theorem State.updAlarm_road (z : Zone) (g : Grade) (f : AlarmRec → AlarmRec) (s : State) : (s.updAlarm z g f).road = s.road := rfl
@[simp] theorem State.updAlarm_refuges (z : Zone) (g : Grade) (f : AlarmRec → AlarmRec) (s : State) : (s.updAlarm z g f).refuges = s.refuges := rfl
@[simp] theorem State.updAlarm_withdrawal (z : Zone) (g : Grade) (f : AlarmRec → AlarmRec) (s : State) : (s.updAlarm z g f).withdrawal = s.withdrawal := rfl
@[simp] theorem State.updAlarm_entries (z : Zone) (g : Grade) (f : AlarmRec → AlarmRec) (s : State) : (s.updAlarm z g f).entries = s.entries := rfl
@[simp] theorem State.updAlarm_signals (z : Zone) (g : Grade) (f : AlarmRec → AlarmRec) (s : State) : (s.updAlarm z g f).signals = s.signals := rfl
@[simp] theorem State.updAlarm_faultLine (z : Zone) (g : Grade) (f : AlarmRec → AlarmRec) (s : State) : (s.updAlarm z g f).faultLine = s.faultLine := rfl
@[simp] theorem State.updAlarm_ports (z : Zone) (g : Grade) (f : AlarmRec → AlarmRec) (s : State) : (s.updAlarm z g f).ports = s.ports := rfl
@[simp] theorem State.updAlarm_settings (z : Zone) (g : Grade) (f : AlarmRec → AlarmRec) (s : State) : (s.updAlarm z g f).settings = s.settings := rfl
@[simp] theorem State.updAlarm_monitor (z : Zone) (g : Grade) (f : AlarmRec → AlarmRec) (s : State) : (s.updAlarm z g f).monitor = s.monitor := rfl
@[simp] theorem State.updAlarm_supply (z : Zone) (g : Grade) (f : AlarmRec → AlarmRec) (s : State) : (s.updAlarm z g f).supply = s.supply := rfl
@[simp] theorem State.updAlarm_pending (z : Zone) (g : Grade) (f : AlarmRec → AlarmRec) (s : State) : (s.updAlarm z g f).pending = s.pending := rfl
@[simp] theorem State.updAlarm_port (z : Zone) (g : Grade) (f : AlarmRec → AlarmRec) (s : State) (q : PortId) : (s.updAlarm z g f).port q = s.port q := rfl
@[simp] theorem State.updAlarm_line (z : Zone) (g : Grade) (f : AlarmRec → AlarmRec) (s : State) (l : LineNo) : (s.updAlarm z g f).line l = s.line l := rfl
@[simp] theorem State.updAlarm_image (z : Zone) (g : Grade) (f : AlarmRec → AlarmRec) (s : State) : (s.updAlarm z g f).image = s.image := rfl
@[simp] theorem State.updAlarm_now (z : Zone) (g : Grade) (f : AlarmRec → AlarmRec) (s : State) : (s.updAlarm z g f).now = s.now := rfl

/-! ### `State.dropAlarm` -/

@[simp] theorem State.dropAlarm_tick (z : Zone) (g : Grade) (s : State) : (s.dropAlarm z g).tick = s.tick := rfl
@[simp] theorem State.dropAlarm_clock (z : Zone) (g : Grade) (s : State) : (s.dropAlarm z g).clock = s.clock := rfl
@[simp] theorem State.dropAlarm_lines (z : Zone) (g : Grade) (s : State) : (s.dropAlarm z g).lines = s.lines := rfl
@[simp] theorem State.dropAlarm_stations (z : Zone) (g : Grade) (s : State) : (s.dropAlarm z g).stations = s.stations := rfl
@[simp] theorem State.dropAlarm_delivery (z : Zone) (g : Grade) (s : State) : (s.dropAlarm z g).delivery = s.delivery := rfl
@[simp] theorem State.dropAlarm_points (z : Zone) (g : Grade) (s : State) : (s.dropAlarm z g).points = s.points := rfl
@[simp] theorem State.dropAlarm_zones (z : Zone) (g : Grade) (s : State) : (s.dropAlarm z g).zones = s.zones := rfl
@[simp] theorem State.dropAlarm_trips (z : Zone) (g : Grade) (s : State) : (s.dropAlarm z g).trips = s.trips := rfl
@[simp] theorem State.dropAlarm_roster (z : Zone) (g : Grade) (s : State) : (s.dropAlarm z g).roster = s.roster := rfl
@[simp] theorem State.dropAlarm_calls (z : Zone) (g : Grade) (s : State) : (s.dropAlarm z g).calls = s.calls := rfl
@[simp] theorem State.dropAlarm_segments (z : Zone) (g : Grade) (s : State) : (s.dropAlarm z g).segments = s.segments := rfl
@[simp] theorem State.dropAlarm_trucks (z : Zone) (g : Grade) (s : State) : (s.dropAlarm z g).trucks = s.trucks := rfl
@[simp] theorem State.dropAlarm_road (z : Zone) (g : Grade) (s : State) : (s.dropAlarm z g).road = s.road := rfl
@[simp] theorem State.dropAlarm_refuges (z : Zone) (g : Grade) (s : State) : (s.dropAlarm z g).refuges = s.refuges := rfl
@[simp] theorem State.dropAlarm_withdrawal (z : Zone) (g : Grade) (s : State) : (s.dropAlarm z g).withdrawal = s.withdrawal := rfl
@[simp] theorem State.dropAlarm_entries (z : Zone) (g : Grade) (s : State) : (s.dropAlarm z g).entries = s.entries := rfl
@[simp] theorem State.dropAlarm_signals (z : Zone) (g : Grade) (s : State) : (s.dropAlarm z g).signals = s.signals := rfl
@[simp] theorem State.dropAlarm_faultLine (z : Zone) (g : Grade) (s : State) : (s.dropAlarm z g).faultLine = s.faultLine := rfl
@[simp] theorem State.dropAlarm_ports (z : Zone) (g : Grade) (s : State) : (s.dropAlarm z g).ports = s.ports := rfl
@[simp] theorem State.dropAlarm_settings (z : Zone) (g : Grade) (s : State) : (s.dropAlarm z g).settings = s.settings := rfl
@[simp] theorem State.dropAlarm_monitor (z : Zone) (g : Grade) (s : State) : (s.dropAlarm z g).monitor = s.monitor := rfl
@[simp] theorem State.dropAlarm_supply (z : Zone) (g : Grade) (s : State) : (s.dropAlarm z g).supply = s.supply := rfl
@[simp] theorem State.dropAlarm_pending (z : Zone) (g : Grade) (s : State) : (s.dropAlarm z g).pending = s.pending := rfl
@[simp] theorem State.dropAlarm_port (z : Zone) (g : Grade) (s : State) (q : PortId) : (s.dropAlarm z g).port q = s.port q := rfl
@[simp] theorem State.dropAlarm_line (z : Zone) (g : Grade) (s : State) (l : LineNo) : (s.dropAlarm z g).line l = s.line l := rfl
@[simp] theorem State.dropAlarm_image (z : Zone) (g : Grade) (s : State) : (s.dropAlarm z g).image = s.image := rfl
@[simp] theorem State.dropAlarm_now (z : Zone) (g : Grade) (s : State) : (s.dropAlarm z g).now = s.now := rfl

/-! ### `State.setPass` -/

@[simp] theorem State.setPass_tick (x : Option Pass) (s : State) : (s.setPass x).tick = s.tick := rfl
@[simp] theorem State.setPass_clock (x : Option Pass) (s : State) : (s.setPass x).clock = s.clock := rfl
@[simp] theorem State.setPass_lines (x : Option Pass) (s : State) : (s.setPass x).lines = s.lines := rfl
@[simp] theorem State.setPass_stations (x : Option Pass) (s : State) : (s.setPass x).stations = s.stations := rfl
@[simp] theorem State.setPass_delivery (x : Option Pass) (s : State) : (s.setPass x).delivery = s.delivery := rfl
@[simp] theorem State.setPass_points (x : Option Pass) (s : State) : (s.setPass x).points = s.points := rfl
@[simp] theorem State.setPass_zones (x : Option Pass) (s : State) : (s.setPass x).zones = s.zones := rfl
@[simp] theorem State.setPass_alarms (x : Option Pass) (s : State) : (s.setPass x).alarms = s.alarms := rfl
@[simp] theorem State.setPass_trips (x : Option Pass) (s : State) : (s.setPass x).trips = s.trips := rfl
@[simp] theorem State.setPass_roster (x : Option Pass) (s : State) : (s.setPass x).roster = s.roster := rfl
@[simp] theorem State.setPass_calls (x : Option Pass) (s : State) : (s.setPass x).calls = s.calls := rfl
@[simp] theorem State.setPass_segments (x : Option Pass) (s : State) : (s.setPass x).segments = s.segments := rfl
@[simp] theorem State.setPass_trucks (x : Option Pass) (s : State) : (s.setPass x).trucks = s.trucks := rfl
@[simp] theorem State.setPass_road (x : Option Pass) (s : State) : (s.setPass x).road = s.road := rfl
@[simp] theorem State.setPass_refuges (x : Option Pass) (s : State) : (s.setPass x).refuges = s.refuges := rfl
@[simp] theorem State.setPass_withdrawal (x : Option Pass) (s : State) : (s.setPass x).withdrawal = s.withdrawal := rfl
@[simp] theorem State.setPass_entries (x : Option Pass) (s : State) : (s.setPass x).entries = s.entries := rfl
@[simp] theorem State.setPass_signals (x : Option Pass) (s : State) : (s.setPass x).signals = s.signals := rfl
@[simp] theorem State.setPass_faultLine (x : Option Pass) (s : State) : (s.setPass x).faultLine = s.faultLine := rfl
@[simp] theorem State.setPass_ports (x : Option Pass) (s : State) : (s.setPass x).ports = s.ports := rfl
@[simp] theorem State.setPass_settings (x : Option Pass) (s : State) : (s.setPass x).settings = s.settings := rfl
@[simp] theorem State.setPass_supply (x : Option Pass) (s : State) : (s.setPass x).supply = s.supply := rfl
@[simp] theorem State.setPass_pending (x : Option Pass) (s : State) : (s.setPass x).pending = s.pending := rfl
@[simp] theorem State.setPass_port (x : Option Pass) (s : State) (q : PortId) : (s.setPass x).port q = s.port q := rfl
@[simp] theorem State.setPass_line (x : Option Pass) (s : State) (l : LineNo) : (s.setPass x).line l = s.line l := rfl
@[simp] theorem State.setPass_image (x : Option Pass) (s : State) : (s.setPass x).image = s.image := rfl
@[simp] theorem State.setPass_now (x : Option Pass) (s : State) : (s.setPass x).now = s.now := rfl

/-! ### `State.setEdit` -/

@[simp] theorem State.setEdit_tick (e : Option Edit) (s : State) : (s.setEdit e).tick = s.tick := rfl
@[simp] theorem State.setEdit_clock (e : Option Edit) (s : State) : (s.setEdit e).clock = s.clock := rfl
@[simp] theorem State.setEdit_lines (e : Option Edit) (s : State) : (s.setEdit e).lines = s.lines := rfl
@[simp] theorem State.setEdit_stations (e : Option Edit) (s : State) : (s.setEdit e).stations = s.stations := rfl
@[simp] theorem State.setEdit_delivery (e : Option Edit) (s : State) : (s.setEdit e).delivery = s.delivery := rfl
@[simp] theorem State.setEdit_points (e : Option Edit) (s : State) : (s.setEdit e).points = s.points := rfl
@[simp] theorem State.setEdit_zones (e : Option Edit) (s : State) : (s.setEdit e).zones = s.zones := rfl
@[simp] theorem State.setEdit_alarms (e : Option Edit) (s : State) : (s.setEdit e).alarms = s.alarms := rfl
@[simp] theorem State.setEdit_trips (e : Option Edit) (s : State) : (s.setEdit e).trips = s.trips := rfl
@[simp] theorem State.setEdit_roster (e : Option Edit) (s : State) : (s.setEdit e).roster = s.roster := rfl
@[simp] theorem State.setEdit_calls (e : Option Edit) (s : State) : (s.setEdit e).calls = s.calls := rfl
@[simp] theorem State.setEdit_segments (e : Option Edit) (s : State) : (s.setEdit e).segments = s.segments := rfl
@[simp] theorem State.setEdit_trucks (e : Option Edit) (s : State) : (s.setEdit e).trucks = s.trucks := rfl
@[simp] theorem State.setEdit_road (e : Option Edit) (s : State) : (s.setEdit e).road = s.road := rfl
@[simp] theorem State.setEdit_refuges (e : Option Edit) (s : State) : (s.setEdit e).refuges = s.refuges := rfl
@[simp] theorem State.setEdit_withdrawal (e : Option Edit) (s : State) : (s.setEdit e).withdrawal = s.withdrawal := rfl
@[simp] theorem State.setEdit_entries (e : Option Edit) (s : State) : (s.setEdit e).entries = s.entries := rfl
@[simp] theorem State.setEdit_signals (e : Option Edit) (s : State) : (s.setEdit e).signals = s.signals := rfl
@[simp] theorem State.setEdit_faultLine (e : Option Edit) (s : State) : (s.setEdit e).faultLine = s.faultLine := rfl
@[simp] theorem State.setEdit_ports (e : Option Edit) (s : State) : (s.setEdit e).ports = s.ports := rfl
@[simp] theorem State.setEdit_monitor (e : Option Edit) (s : State) : (s.setEdit e).monitor = s.monitor := rfl
@[simp] theorem State.setEdit_supply (e : Option Edit) (s : State) : (s.setEdit e).supply = s.supply := rfl
@[simp] theorem State.setEdit_pending (e : Option Edit) (s : State) : (s.setEdit e).pending = s.pending := rfl
@[simp] theorem State.setEdit_port (e : Option Edit) (s : State) (q : PortId) : (s.setEdit e).port q = s.port q := rfl
@[simp] theorem State.setEdit_line (e : Option Edit) (s : State) (l : LineNo) : (s.setEdit e).line l = s.line l := rfl
@[simp] theorem State.setEdit_image (e : Option Edit) (s : State) : (s.setEdit e).image = s.image := rfl
@[simp] theorem State.setEdit_now (e : Option Edit) (s : State) : (s.setEdit e).now = s.now := rfl

/-! ### `State.setSave` -/

@[simp] theorem State.setSave_tick (g : SaveStage) (s : State) : (s.setSave g).tick = s.tick := rfl
@[simp] theorem State.setSave_clock (g : SaveStage) (s : State) : (s.setSave g).clock = s.clock := rfl
@[simp] theorem State.setSave_lines (g : SaveStage) (s : State) : (s.setSave g).lines = s.lines := rfl
@[simp] theorem State.setSave_stations (g : SaveStage) (s : State) : (s.setSave g).stations = s.stations := rfl
@[simp] theorem State.setSave_delivery (g : SaveStage) (s : State) : (s.setSave g).delivery = s.delivery := rfl
@[simp] theorem State.setSave_points (g : SaveStage) (s : State) : (s.setSave g).points = s.points := rfl
@[simp] theorem State.setSave_zones (g : SaveStage) (s : State) : (s.setSave g).zones = s.zones := rfl
@[simp] theorem State.setSave_alarms (g : SaveStage) (s : State) : (s.setSave g).alarms = s.alarms := rfl
@[simp] theorem State.setSave_trips (g : SaveStage) (s : State) : (s.setSave g).trips = s.trips := rfl
@[simp] theorem State.setSave_roster (g : SaveStage) (s : State) : (s.setSave g).roster = s.roster := rfl
@[simp] theorem State.setSave_calls (g : SaveStage) (s : State) : (s.setSave g).calls = s.calls := rfl
@[simp] theorem State.setSave_segments (g : SaveStage) (s : State) : (s.setSave g).segments = s.segments := rfl
@[simp] theorem State.setSave_trucks (g : SaveStage) (s : State) : (s.setSave g).trucks = s.trucks := rfl
@[simp] theorem State.setSave_road (g : SaveStage) (s : State) : (s.setSave g).road = s.road := rfl
@[simp] theorem State.setSave_refuges (g : SaveStage) (s : State) : (s.setSave g).refuges = s.refuges := rfl
@[simp] theorem State.setSave_withdrawal (g : SaveStage) (s : State) : (s.setSave g).withdrawal = s.withdrawal := rfl
@[simp] theorem State.setSave_entries (g : SaveStage) (s : State) : (s.setSave g).entries = s.entries := rfl
@[simp] theorem State.setSave_signals (g : SaveStage) (s : State) : (s.setSave g).signals = s.signals := rfl
@[simp] theorem State.setSave_faultLine (g : SaveStage) (s : State) : (s.setSave g).faultLine = s.faultLine := rfl
@[simp] theorem State.setSave_ports (g : SaveStage) (s : State) : (s.setSave g).ports = s.ports := rfl
@[simp] theorem State.setSave_settings (g : SaveStage) (s : State) : (s.setSave g).settings = s.settings := rfl
@[simp] theorem State.setSave_monitor (g : SaveStage) (s : State) : (s.setSave g).monitor = s.monitor := rfl
@[simp] theorem State.setSave_pending (g : SaveStage) (s : State) : (s.setSave g).pending = s.pending := rfl
@[simp] theorem State.setSave_port (g : SaveStage) (s : State) (q : PortId) : (s.setSave g).port q = s.port q := rfl
@[simp] theorem State.setSave_line (g : SaveStage) (s : State) (l : LineNo) : (s.setSave g).line l = s.line l := rfl
@[simp] theorem State.setSave_image (g : SaveStage) (s : State) : (s.setSave g).image = s.image := rfl
@[simp] theorem State.setSave_now (g : SaveStage) (s : State) : (s.setSave g).now = s.now := rfl

/-! ### `State.setMains` -/

@[simp] theorem State.setMains_tick (on : Bool) (s : State) : (s.setMains on).tick = s.tick := rfl
@[simp] theorem State.setMains_clock (on : Bool) (s : State) : (s.setMains on).clock = s.clock := rfl
@[simp] theorem State.setMains_lines (on : Bool) (s : State) : (s.setMains on).lines = s.lines := rfl
@[simp] theorem State.setMains_stations (on : Bool) (s : State) : (s.setMains on).stations = s.stations := rfl
@[simp] theorem State.setMains_delivery (on : Bool) (s : State) : (s.setMains on).delivery = s.delivery := rfl
@[simp] theorem State.setMains_points (on : Bool) (s : State) : (s.setMains on).points = s.points := rfl
@[simp] theorem State.setMains_zones (on : Bool) (s : State) : (s.setMains on).zones = s.zones := rfl
@[simp] theorem State.setMains_alarms (on : Bool) (s : State) : (s.setMains on).alarms = s.alarms := rfl
@[simp] theorem State.setMains_trips (on : Bool) (s : State) : (s.setMains on).trips = s.trips := rfl
@[simp] theorem State.setMains_roster (on : Bool) (s : State) : (s.setMains on).roster = s.roster := rfl
@[simp] theorem State.setMains_calls (on : Bool) (s : State) : (s.setMains on).calls = s.calls := rfl
@[simp] theorem State.setMains_segments (on : Bool) (s : State) : (s.setMains on).segments = s.segments := rfl
@[simp] theorem State.setMains_trucks (on : Bool) (s : State) : (s.setMains on).trucks = s.trucks := rfl
@[simp] theorem State.setMains_road (on : Bool) (s : State) : (s.setMains on).road = s.road := rfl
@[simp] theorem State.setMains_refuges (on : Bool) (s : State) : (s.setMains on).refuges = s.refuges := rfl
@[simp] theorem State.setMains_withdrawal (on : Bool) (s : State) : (s.setMains on).withdrawal = s.withdrawal := rfl
@[simp] theorem State.setMains_entries (on : Bool) (s : State) : (s.setMains on).entries = s.entries := rfl
@[simp] theorem State.setMains_signals (on : Bool) (s : State) : (s.setMains on).signals = s.signals := rfl
@[simp] theorem State.setMains_faultLine (on : Bool) (s : State) : (s.setMains on).faultLine = s.faultLine := rfl
@[simp] theorem State.setMains_ports (on : Bool) (s : State) : (s.setMains on).ports = s.ports := rfl
@[simp] theorem State.setMains_settings (on : Bool) (s : State) : (s.setMains on).settings = s.settings := rfl
@[simp] theorem State.setMains_monitor (on : Bool) (s : State) : (s.setMains on).monitor = s.monitor := rfl
@[simp] theorem State.setMains_pending (on : Bool) (s : State) : (s.setMains on).pending = s.pending := rfl
@[simp] theorem State.setMains_port (on : Bool) (s : State) (q : PortId) : (s.setMains on).port q = s.port q := rfl
@[simp] theorem State.setMains_line (on : Bool) (s : State) (l : LineNo) : (s.setMains on).line l = s.line l := rfl
@[simp] theorem State.setMains_image (on : Bool) (s : State) : (s.setMains on).image = s.image := rfl
@[simp] theorem State.setMains_now (on : Bool) (s : State) : (s.setMains on).now = s.now := rfl

/-! ### `State.setBattLow` -/

@[simp] theorem State.setBattLow_tick (on : Bool) (s : State) : (s.setBattLow on).tick = s.tick := rfl
@[simp] theorem State.setBattLow_clock (on : Bool) (s : State) : (s.setBattLow on).clock = s.clock := rfl
@[simp] theorem State.setBattLow_lines (on : Bool) (s : State) : (s.setBattLow on).lines = s.lines := rfl
@[simp] theorem State.setBattLow_stations (on : Bool) (s : State) : (s.setBattLow on).stations = s.stations := rfl
@[simp] theorem State.setBattLow_delivery (on : Bool) (s : State) : (s.setBattLow on).delivery = s.delivery := rfl
@[simp] theorem State.setBattLow_points (on : Bool) (s : State) : (s.setBattLow on).points = s.points := rfl
@[simp] theorem State.setBattLow_zones (on : Bool) (s : State) : (s.setBattLow on).zones = s.zones := rfl
@[simp] theorem State.setBattLow_alarms (on : Bool) (s : State) : (s.setBattLow on).alarms = s.alarms := rfl
@[simp] theorem State.setBattLow_trips (on : Bool) (s : State) : (s.setBattLow on).trips = s.trips := rfl
@[simp] theorem State.setBattLow_roster (on : Bool) (s : State) : (s.setBattLow on).roster = s.roster := rfl
@[simp] theorem State.setBattLow_calls (on : Bool) (s : State) : (s.setBattLow on).calls = s.calls := rfl
@[simp] theorem State.setBattLow_segments (on : Bool) (s : State) : (s.setBattLow on).segments = s.segments := rfl
@[simp] theorem State.setBattLow_trucks (on : Bool) (s : State) : (s.setBattLow on).trucks = s.trucks := rfl
@[simp] theorem State.setBattLow_road (on : Bool) (s : State) : (s.setBattLow on).road = s.road := rfl
@[simp] theorem State.setBattLow_refuges (on : Bool) (s : State) : (s.setBattLow on).refuges = s.refuges := rfl
@[simp] theorem State.setBattLow_withdrawal (on : Bool) (s : State) : (s.setBattLow on).withdrawal = s.withdrawal := rfl
@[simp] theorem State.setBattLow_entries (on : Bool) (s : State) : (s.setBattLow on).entries = s.entries := rfl
@[simp] theorem State.setBattLow_signals (on : Bool) (s : State) : (s.setBattLow on).signals = s.signals := rfl
@[simp] theorem State.setBattLow_faultLine (on : Bool) (s : State) : (s.setBattLow on).faultLine = s.faultLine := rfl
@[simp] theorem State.setBattLow_ports (on : Bool) (s : State) : (s.setBattLow on).ports = s.ports := rfl
@[simp] theorem State.setBattLow_settings (on : Bool) (s : State) : (s.setBattLow on).settings = s.settings := rfl
@[simp] theorem State.setBattLow_monitor (on : Bool) (s : State) : (s.setBattLow on).monitor = s.monitor := rfl
@[simp] theorem State.setBattLow_pending (on : Bool) (s : State) : (s.setBattLow on).pending = s.pending := rfl
@[simp] theorem State.setBattLow_port (on : Bool) (s : State) (q : PortId) : (s.setBattLow on).port q = s.port q := rfl
@[simp] theorem State.setBattLow_line (on : Bool) (s : State) (l : LineNo) : (s.setBattLow on).line l = s.line l := rfl
@[simp] theorem State.setBattLow_image (on : Bool) (s : State) : (s.setBattLow on).image = s.image := rfl
@[simp] theorem State.setBattLow_now (on : Bool) (s : State) : (s.setBattLow on).now = s.now := rfl

/-! ### `State.respond` -/

@[simp] theorem State.respond_tick (p : PortId) (r : Response) (s : State) : (s.respond p r).tick = s.tick := rfl
@[simp] theorem State.respond_clock (p : PortId) (r : Response) (s : State) : (s.respond p r).clock = s.clock := rfl
@[simp] theorem State.respond_lines (p : PortId) (r : Response) (s : State) : (s.respond p r).lines = s.lines := rfl
@[simp] theorem State.respond_stations (p : PortId) (r : Response) (s : State) : (s.respond p r).stations = s.stations := rfl
@[simp] theorem State.respond_delivery (p : PortId) (r : Response) (s : State) : (s.respond p r).delivery = s.delivery := rfl
@[simp] theorem State.respond_points (p : PortId) (r : Response) (s : State) : (s.respond p r).points = s.points := rfl
@[simp] theorem State.respond_zones (p : PortId) (r : Response) (s : State) : (s.respond p r).zones = s.zones := rfl
@[simp] theorem State.respond_alarms (p : PortId) (r : Response) (s : State) : (s.respond p r).alarms = s.alarms := rfl
@[simp] theorem State.respond_trips (p : PortId) (r : Response) (s : State) : (s.respond p r).trips = s.trips := rfl
@[simp] theorem State.respond_roster (p : PortId) (r : Response) (s : State) : (s.respond p r).roster = s.roster := rfl
@[simp] theorem State.respond_calls (p : PortId) (r : Response) (s : State) : (s.respond p r).calls = s.calls := rfl
@[simp] theorem State.respond_segments (p : PortId) (r : Response) (s : State) : (s.respond p r).segments = s.segments := rfl
@[simp] theorem State.respond_trucks (p : PortId) (r : Response) (s : State) : (s.respond p r).trucks = s.trucks := rfl
@[simp] theorem State.respond_road (p : PortId) (r : Response) (s : State) : (s.respond p r).road = s.road := rfl
@[simp] theorem State.respond_refuges (p : PortId) (r : Response) (s : State) : (s.respond p r).refuges = s.refuges := rfl
@[simp] theorem State.respond_withdrawal (p : PortId) (r : Response) (s : State) : (s.respond p r).withdrawal = s.withdrawal := rfl
@[simp] theorem State.respond_entries (p : PortId) (r : Response) (s : State) : (s.respond p r).entries = s.entries := rfl
@[simp] theorem State.respond_signals (p : PortId) (r : Response) (s : State) : (s.respond p r).signals = s.signals := rfl
@[simp] theorem State.respond_faultLine (p : PortId) (r : Response) (s : State) : (s.respond p r).faultLine = s.faultLine := rfl
@[simp] theorem State.respond_settings (p : PortId) (r : Response) (s : State) : (s.respond p r).settings = s.settings := rfl
@[simp] theorem State.respond_monitor (p : PortId) (r : Response) (s : State) : (s.respond p r).monitor = s.monitor := rfl
@[simp] theorem State.respond_supply (p : PortId) (r : Response) (s : State) : (s.respond p r).supply = s.supply := rfl
@[simp] theorem State.respond_pending (p : PortId) (r : Response) (s : State) : (s.respond p r).pending = s.pending := rfl
@[simp] theorem State.respond_line (p : PortId) (r : Response) (s : State) (l : LineNo) : (s.respond p r).line l = s.line l := rfl
@[simp] theorem State.respond_image (p : PortId) (r : Response) (s : State) : (s.respond p r).image = s.image := rfl
@[simp] theorem State.respond_now (p : PortId) (r : Response) (s : State) : (s.respond p r).now = s.now := rfl

/-! ### `State.answer` -/

@[simp] theorem State.answer_tick (p : PortId) (f : Frame) (res : Result) (d : Detail) (s : State) : (s.answer p f res d).tick = s.tick := rfl
@[simp] theorem State.answer_clock (p : PortId) (f : Frame) (res : Result) (d : Detail) (s : State) : (s.answer p f res d).clock = s.clock := rfl
@[simp] theorem State.answer_lines (p : PortId) (f : Frame) (res : Result) (d : Detail) (s : State) : (s.answer p f res d).lines = s.lines := rfl
@[simp] theorem State.answer_stations (p : PortId) (f : Frame) (res : Result) (d : Detail) (s : State) : (s.answer p f res d).stations = s.stations := rfl
@[simp] theorem State.answer_delivery (p : PortId) (f : Frame) (res : Result) (d : Detail) (s : State) : (s.answer p f res d).delivery = s.delivery := rfl
@[simp] theorem State.answer_points (p : PortId) (f : Frame) (res : Result) (d : Detail) (s : State) : (s.answer p f res d).points = s.points := rfl
@[simp] theorem State.answer_zones (p : PortId) (f : Frame) (res : Result) (d : Detail) (s : State) : (s.answer p f res d).zones = s.zones := rfl
@[simp] theorem State.answer_alarms (p : PortId) (f : Frame) (res : Result) (d : Detail) (s : State) : (s.answer p f res d).alarms = s.alarms := rfl
@[simp] theorem State.answer_trips (p : PortId) (f : Frame) (res : Result) (d : Detail) (s : State) : (s.answer p f res d).trips = s.trips := rfl
@[simp] theorem State.answer_roster (p : PortId) (f : Frame) (res : Result) (d : Detail) (s : State) : (s.answer p f res d).roster = s.roster := rfl
@[simp] theorem State.answer_calls (p : PortId) (f : Frame) (res : Result) (d : Detail) (s : State) : (s.answer p f res d).calls = s.calls := rfl
@[simp] theorem State.answer_segments (p : PortId) (f : Frame) (res : Result) (d : Detail) (s : State) : (s.answer p f res d).segments = s.segments := rfl
@[simp] theorem State.answer_trucks (p : PortId) (f : Frame) (res : Result) (d : Detail) (s : State) : (s.answer p f res d).trucks = s.trucks := rfl
@[simp] theorem State.answer_road (p : PortId) (f : Frame) (res : Result) (d : Detail) (s : State) : (s.answer p f res d).road = s.road := rfl
@[simp] theorem State.answer_refuges (p : PortId) (f : Frame) (res : Result) (d : Detail) (s : State) : (s.answer p f res d).refuges = s.refuges := rfl
@[simp] theorem State.answer_withdrawal (p : PortId) (f : Frame) (res : Result) (d : Detail) (s : State) : (s.answer p f res d).withdrawal = s.withdrawal := rfl
@[simp] theorem State.answer_entries (p : PortId) (f : Frame) (res : Result) (d : Detail) (s : State) : (s.answer p f res d).entries = s.entries := rfl
@[simp] theorem State.answer_signals (p : PortId) (f : Frame) (res : Result) (d : Detail) (s : State) : (s.answer p f res d).signals = s.signals := rfl
@[simp] theorem State.answer_faultLine (p : PortId) (f : Frame) (res : Result) (d : Detail) (s : State) : (s.answer p f res d).faultLine = s.faultLine := rfl
@[simp] theorem State.answer_settings (p : PortId) (f : Frame) (res : Result) (d : Detail) (s : State) : (s.answer p f res d).settings = s.settings := rfl
@[simp] theorem State.answer_monitor (p : PortId) (f : Frame) (res : Result) (d : Detail) (s : State) : (s.answer p f res d).monitor = s.monitor := rfl
@[simp] theorem State.answer_supply (p : PortId) (f : Frame) (res : Result) (d : Detail) (s : State) : (s.answer p f res d).supply = s.supply := rfl
@[simp] theorem State.answer_pending (p : PortId) (f : Frame) (res : Result) (d : Detail) (s : State) : (s.answer p f res d).pending = s.pending := rfl
@[simp] theorem State.answer_line (p : PortId) (f : Frame) (res : Result) (d : Detail) (s : State) (l : LineNo) : (s.answer p f res d).line l = s.line l := rfl
@[simp] theorem State.answer_image (p : PortId) (f : Frame) (res : Result) (d : Detail) (s : State) : (s.answer p f res d).image = s.image := rfl
@[simp] theorem State.answer_now (p : PortId) (f : Frame) (res : Result) (d : Detail) (s : State) : (s.answer p f res d).now = s.now := rfl

/-! ### `State.popRequest` -/

@[simp] theorem State.popRequest_tick (p : PortId) (s : State) : (s.popRequest p).tick = s.tick := rfl
@[simp] theorem State.popRequest_clock (p : PortId) (s : State) : (s.popRequest p).clock = s.clock := rfl
@[simp] theorem State.popRequest_lines (p : PortId) (s : State) : (s.popRequest p).lines = s.lines := rfl
@[simp] theorem State.popRequest_stations (p : PortId) (s : State) : (s.popRequest p).stations = s.stations := rfl
@[simp] theorem State.popRequest_delivery (p : PortId) (s : State) : (s.popRequest p).delivery = s.delivery := rfl
@[simp] theorem State.popRequest_points (p : PortId) (s : State) : (s.popRequest p).points = s.points := rfl
@[simp] theorem State.popRequest_zones (p : PortId) (s : State) : (s.popRequest p).zones = s.zones := rfl
@[simp] theorem State.popRequest_alarms (p : PortId) (s : State) : (s.popRequest p).alarms = s.alarms := rfl
@[simp] theorem State.popRequest_trips (p : PortId) (s : State) : (s.popRequest p).trips = s.trips := rfl
@[simp] theorem State.popRequest_roster (p : PortId) (s : State) : (s.popRequest p).roster = s.roster := rfl
@[simp] theorem State.popRequest_calls (p : PortId) (s : State) : (s.popRequest p).calls = s.calls := rfl
@[simp] theorem State.popRequest_segments (p : PortId) (s : State) : (s.popRequest p).segments = s.segments := rfl
@[simp] theorem State.popRequest_trucks (p : PortId) (s : State) : (s.popRequest p).trucks = s.trucks := rfl
@[simp] theorem State.popRequest_road (p : PortId) (s : State) : (s.popRequest p).road = s.road := rfl
@[simp] theorem State.popRequest_refuges (p : PortId) (s : State) : (s.popRequest p).refuges = s.refuges := rfl
@[simp] theorem State.popRequest_withdrawal (p : PortId) (s : State) : (s.popRequest p).withdrawal = s.withdrawal := rfl
@[simp] theorem State.popRequest_entries (p : PortId) (s : State) : (s.popRequest p).entries = s.entries := rfl
@[simp] theorem State.popRequest_signals (p : PortId) (s : State) : (s.popRequest p).signals = s.signals := rfl
@[simp] theorem State.popRequest_faultLine (p : PortId) (s : State) : (s.popRequest p).faultLine = s.faultLine := rfl
@[simp] theorem State.popRequest_settings (p : PortId) (s : State) : (s.popRequest p).settings = s.settings := rfl
@[simp] theorem State.popRequest_monitor (p : PortId) (s : State) : (s.popRequest p).monitor = s.monitor := rfl
@[simp] theorem State.popRequest_supply (p : PortId) (s : State) : (s.popRequest p).supply = s.supply := rfl
@[simp] theorem State.popRequest_pending (p : PortId) (s : State) : (s.popRequest p).pending = s.pending := rfl
@[simp] theorem State.popRequest_line (p : PortId) (s : State) (l : LineNo) : (s.popRequest p).line l = s.line l := rfl
@[simp] theorem State.popRequest_image (p : PortId) (s : State) : (s.popRequest p).image = s.image := rfl
@[simp] theorem State.popRequest_now (p : PortId) (s : State) : (s.popRequest p).now = s.now := rfl

/-! ### `State.setAssembly` -/

@[simp] theorem State.setAssembly_tick (p : PortId) (a : List Byte) (s : State) : (s.setAssembly p a).tick = s.tick := rfl
@[simp] theorem State.setAssembly_clock (p : PortId) (a : List Byte) (s : State) : (s.setAssembly p a).clock = s.clock := rfl
@[simp] theorem State.setAssembly_lines (p : PortId) (a : List Byte) (s : State) : (s.setAssembly p a).lines = s.lines := rfl
@[simp] theorem State.setAssembly_stations (p : PortId) (a : List Byte) (s : State) : (s.setAssembly p a).stations = s.stations := rfl
@[simp] theorem State.setAssembly_delivery (p : PortId) (a : List Byte) (s : State) : (s.setAssembly p a).delivery = s.delivery := rfl
@[simp] theorem State.setAssembly_points (p : PortId) (a : List Byte) (s : State) : (s.setAssembly p a).points = s.points := rfl
@[simp] theorem State.setAssembly_zones (p : PortId) (a : List Byte) (s : State) : (s.setAssembly p a).zones = s.zones := rfl
@[simp] theorem State.setAssembly_alarms (p : PortId) (a : List Byte) (s : State) : (s.setAssembly p a).alarms = s.alarms := rfl
@[simp] theorem State.setAssembly_trips (p : PortId) (a : List Byte) (s : State) : (s.setAssembly p a).trips = s.trips := rfl
@[simp] theorem State.setAssembly_roster (p : PortId) (a : List Byte) (s : State) : (s.setAssembly p a).roster = s.roster := rfl
@[simp] theorem State.setAssembly_calls (p : PortId) (a : List Byte) (s : State) : (s.setAssembly p a).calls = s.calls := rfl
@[simp] theorem State.setAssembly_segments (p : PortId) (a : List Byte) (s : State) : (s.setAssembly p a).segments = s.segments := rfl
@[simp] theorem State.setAssembly_trucks (p : PortId) (a : List Byte) (s : State) : (s.setAssembly p a).trucks = s.trucks := rfl
@[simp] theorem State.setAssembly_road (p : PortId) (a : List Byte) (s : State) : (s.setAssembly p a).road = s.road := rfl
@[simp] theorem State.setAssembly_refuges (p : PortId) (a : List Byte) (s : State) : (s.setAssembly p a).refuges = s.refuges := rfl
@[simp] theorem State.setAssembly_withdrawal (p : PortId) (a : List Byte) (s : State) : (s.setAssembly p a).withdrawal = s.withdrawal := rfl
@[simp] theorem State.setAssembly_entries (p : PortId) (a : List Byte) (s : State) : (s.setAssembly p a).entries = s.entries := rfl
@[simp] theorem State.setAssembly_signals (p : PortId) (a : List Byte) (s : State) : (s.setAssembly p a).signals = s.signals := rfl
@[simp] theorem State.setAssembly_faultLine (p : PortId) (a : List Byte) (s : State) : (s.setAssembly p a).faultLine = s.faultLine := rfl
@[simp] theorem State.setAssembly_settings (p : PortId) (a : List Byte) (s : State) : (s.setAssembly p a).settings = s.settings := rfl
@[simp] theorem State.setAssembly_monitor (p : PortId) (a : List Byte) (s : State) : (s.setAssembly p a).monitor = s.monitor := rfl
@[simp] theorem State.setAssembly_supply (p : PortId) (a : List Byte) (s : State) : (s.setAssembly p a).supply = s.supply := rfl
@[simp] theorem State.setAssembly_pending (p : PortId) (a : List Byte) (s : State) : (s.setAssembly p a).pending = s.pending := rfl
@[simp] theorem State.setAssembly_line (p : PortId) (a : List Byte) (s : State) (l : LineNo) : (s.setAssembly p a).line l = s.line l := rfl
@[simp] theorem State.setAssembly_image (p : PortId) (a : List Byte) (s : State) : (s.setAssembly p a).image = s.image := rfl
@[simp] theorem State.setAssembly_now (p : PortId) (a : List Byte) (s : State) : (s.setAssembly p a).now = s.now := rfl

/-! ### `State.badFrame` -/

@[simp] theorem State.badFrame_tick (p : PortId) (s : State) : (s.badFrame p).tick = s.tick := rfl
@[simp] theorem State.badFrame_clock (p : PortId) (s : State) : (s.badFrame p).clock = s.clock := rfl
@[simp] theorem State.badFrame_lines (p : PortId) (s : State) : (s.badFrame p).lines = s.lines := rfl
@[simp] theorem State.badFrame_stations (p : PortId) (s : State) : (s.badFrame p).stations = s.stations := rfl
@[simp] theorem State.badFrame_delivery (p : PortId) (s : State) : (s.badFrame p).delivery = s.delivery := rfl
@[simp] theorem State.badFrame_points (p : PortId) (s : State) : (s.badFrame p).points = s.points := rfl
@[simp] theorem State.badFrame_zones (p : PortId) (s : State) : (s.badFrame p).zones = s.zones := rfl
@[simp] theorem State.badFrame_alarms (p : PortId) (s : State) : (s.badFrame p).alarms = s.alarms := rfl
@[simp] theorem State.badFrame_trips (p : PortId) (s : State) : (s.badFrame p).trips = s.trips := rfl
@[simp] theorem State.badFrame_roster (p : PortId) (s : State) : (s.badFrame p).roster = s.roster := rfl
@[simp] theorem State.badFrame_calls (p : PortId) (s : State) : (s.badFrame p).calls = s.calls := rfl
@[simp] theorem State.badFrame_segments (p : PortId) (s : State) : (s.badFrame p).segments = s.segments := rfl
@[simp] theorem State.badFrame_trucks (p : PortId) (s : State) : (s.badFrame p).trucks = s.trucks := rfl
@[simp] theorem State.badFrame_road (p : PortId) (s : State) : (s.badFrame p).road = s.road := rfl
@[simp] theorem State.badFrame_refuges (p : PortId) (s : State) : (s.badFrame p).refuges = s.refuges := rfl
@[simp] theorem State.badFrame_withdrawal (p : PortId) (s : State) : (s.badFrame p).withdrawal = s.withdrawal := rfl
@[simp] theorem State.badFrame_entries (p : PortId) (s : State) : (s.badFrame p).entries = s.entries := rfl
@[simp] theorem State.badFrame_signals (p : PortId) (s : State) : (s.badFrame p).signals = s.signals := rfl
@[simp] theorem State.badFrame_faultLine (p : PortId) (s : State) : (s.badFrame p).faultLine = s.faultLine := rfl
@[simp] theorem State.badFrame_settings (p : PortId) (s : State) : (s.badFrame p).settings = s.settings := rfl
@[simp] theorem State.badFrame_monitor (p : PortId) (s : State) : (s.badFrame p).monitor = s.monitor := rfl
@[simp] theorem State.badFrame_supply (p : PortId) (s : State) : (s.badFrame p).supply = s.supply := rfl
@[simp] theorem State.badFrame_pending (p : PortId) (s : State) : (s.badFrame p).pending = s.pending := rfl
@[simp] theorem State.badFrame_line (p : PortId) (s : State) (l : LineNo) : (s.badFrame p).line l = s.line l := rfl
@[simp] theorem State.badFrame_image (p : PortId) (s : State) : (s.badFrame p).image = s.image := rfl
@[simp] theorem State.badFrame_now (p : PortId) (s : State) : (s.badFrame p).now = s.now := rfl

/-! ### `State.judgeSignals` -/

@[simp] theorem State.judgeSignals_tick (s : State) : (s.judgeSignals).tick = s.tick := rfl
@[simp] theorem State.judgeSignals_clock (s : State) : (s.judgeSignals).clock = s.clock := rfl
@[simp] theorem State.judgeSignals_lines (s : State) : (s.judgeSignals).lines = s.lines := rfl
@[simp] theorem State.judgeSignals_stations (s : State) : (s.judgeSignals).stations = s.stations := rfl
@[simp] theorem State.judgeSignals_delivery (s : State) : (s.judgeSignals).delivery = s.delivery := rfl
@[simp] theorem State.judgeSignals_points (s : State) : (s.judgeSignals).points = s.points := rfl
@[simp] theorem State.judgeSignals_zones (s : State) : (s.judgeSignals).zones = s.zones := rfl
@[simp] theorem State.judgeSignals_alarms (s : State) : (s.judgeSignals).alarms = s.alarms := rfl
@[simp] theorem State.judgeSignals_trips (s : State) : (s.judgeSignals).trips = s.trips := rfl
@[simp] theorem State.judgeSignals_roster (s : State) : (s.judgeSignals).roster = s.roster := rfl
@[simp] theorem State.judgeSignals_calls (s : State) : (s.judgeSignals).calls = s.calls := rfl
@[simp] theorem State.judgeSignals_segments (s : State) : (s.judgeSignals).segments = s.segments := rfl
@[simp] theorem State.judgeSignals_trucks (s : State) : (s.judgeSignals).trucks = s.trucks := rfl
@[simp] theorem State.judgeSignals_road (s : State) : (s.judgeSignals).road = s.road := rfl
@[simp] theorem State.judgeSignals_refuges (s : State) : (s.judgeSignals).refuges = s.refuges := rfl
@[simp] theorem State.judgeSignals_withdrawal (s : State) : (s.judgeSignals).withdrawal = s.withdrawal := rfl
@[simp] theorem State.judgeSignals_entries (s : State) : (s.judgeSignals).entries = s.entries := rfl
@[simp] theorem State.judgeSignals_faultLine (s : State) : (s.judgeSignals).faultLine = s.faultLine := rfl
@[simp] theorem State.judgeSignals_ports (s : State) : (s.judgeSignals).ports = s.ports := rfl
@[simp] theorem State.judgeSignals_settings (s : State) : (s.judgeSignals).settings = s.settings := rfl
@[simp] theorem State.judgeSignals_monitor (s : State) : (s.judgeSignals).monitor = s.monitor := rfl
@[simp] theorem State.judgeSignals_supply (s : State) : (s.judgeSignals).supply = s.supply := rfl
@[simp] theorem State.judgeSignals_pending (s : State) : (s.judgeSignals).pending = s.pending := rfl
@[simp] theorem State.judgeSignals_port (s : State) (q : PortId) : (s.judgeSignals).port q = s.port q := rfl
@[simp] theorem State.judgeSignals_line (s : State) (l : LineNo) : (s.judgeSignals).line l = s.line l := rfl
@[simp] theorem State.judgeSignals_image (s : State) : (s.judgeSignals).image = s.image := rfl
@[simp] theorem State.judgeSignals_now (s : State) : (s.judgeSignals).now = s.now := rfl

/-! ### `State.judgeFault` -/

@[simp] theorem State.judgeFault_tick (s : State) : (s.judgeFault).tick = s.tick := rfl
@[simp] theorem State.judgeFault_clock (s : State) : (s.judgeFault).clock = s.clock := rfl
@[simp] theorem State.judgeFault_lines (s : State) : (s.judgeFault).lines = s.lines := rfl
@[simp] theorem State.judgeFault_stations (s : State) : (s.judgeFault).stations = s.stations := rfl
@[simp] theorem State.judgeFault_delivery (s : State) : (s.judgeFault).delivery = s.delivery := rfl
@[simp] theorem State.judgeFault_points (s : State) : (s.judgeFault).points = s.points := rfl
@[simp] theorem State.judgeFault_zones (s : State) : (s.judgeFault).zones = s.zones := rfl
@[simp] theorem State.judgeFault_alarms (s : State) : (s.judgeFault).alarms = s.alarms := rfl
@[simp] theorem State.judgeFault_trips (s : State) : (s.judgeFault).trips = s.trips := rfl
@[simp] theorem State.judgeFault_roster (s : State) : (s.judgeFault).roster = s.roster := rfl
@[simp] theorem State.judgeFault_calls (s : State) : (s.judgeFault).calls = s.calls := rfl
@[simp] theorem State.judgeFault_segments (s : State) : (s.judgeFault).segments = s.segments := rfl
@[simp] theorem State.judgeFault_trucks (s : State) : (s.judgeFault).trucks = s.trucks := rfl
@[simp] theorem State.judgeFault_road (s : State) : (s.judgeFault).road = s.road := rfl
@[simp] theorem State.judgeFault_refuges (s : State) : (s.judgeFault).refuges = s.refuges := rfl
@[simp] theorem State.judgeFault_withdrawal (s : State) : (s.judgeFault).withdrawal = s.withdrawal := rfl
@[simp] theorem State.judgeFault_entries (s : State) : (s.judgeFault).entries = s.entries := rfl
@[simp] theorem State.judgeFault_signals (s : State) : (s.judgeFault).signals = s.signals := rfl
@[simp] theorem State.judgeFault_ports (s : State) : (s.judgeFault).ports = s.ports := rfl
@[simp] theorem State.judgeFault_settings (s : State) : (s.judgeFault).settings = s.settings := rfl
@[simp] theorem State.judgeFault_monitor (s : State) : (s.judgeFault).monitor = s.monitor := rfl
@[simp] theorem State.judgeFault_supply (s : State) : (s.judgeFault).supply = s.supply := rfl
@[simp] theorem State.judgeFault_pending (s : State) : (s.judgeFault).pending = s.pending := rfl
@[simp] theorem State.judgeFault_port (s : State) (q : PortId) : (s.judgeFault).port q = s.port q := rfl
@[simp] theorem State.judgeFault_line (s : State) (l : LineNo) : (s.judgeFault).line l = s.line l := rfl
@[simp] theorem State.judgeFault_image (s : State) : (s.judgeFault).image = s.image := rfl
@[simp] theorem State.judgeFault_now (s : State) : (s.judgeFault).now = s.now := rfl

/-! ### `State.judgeRefuges` -/

@[simp] theorem State.judgeRefuges_tick (s : State) : (s.judgeRefuges).tick = s.tick := rfl
@[simp] theorem State.judgeRefuges_clock (s : State) : (s.judgeRefuges).clock = s.clock := rfl
@[simp] theorem State.judgeRefuges_lines (s : State) : (s.judgeRefuges).lines = s.lines := rfl
@[simp] theorem State.judgeRefuges_stations (s : State) : (s.judgeRefuges).stations = s.stations := rfl
@[simp] theorem State.judgeRefuges_delivery (s : State) : (s.judgeRefuges).delivery = s.delivery := rfl
@[simp] theorem State.judgeRefuges_points (s : State) : (s.judgeRefuges).points = s.points := rfl
@[simp] theorem State.judgeRefuges_zones (s : State) : (s.judgeRefuges).zones = s.zones := rfl
@[simp] theorem State.judgeRefuges_alarms (s : State) : (s.judgeRefuges).alarms = s.alarms := rfl
@[simp] theorem State.judgeRefuges_trips (s : State) : (s.judgeRefuges).trips = s.trips := rfl
@[simp] theorem State.judgeRefuges_roster (s : State) : (s.judgeRefuges).roster = s.roster := rfl
@[simp] theorem State.judgeRefuges_calls (s : State) : (s.judgeRefuges).calls = s.calls := rfl
@[simp] theorem State.judgeRefuges_segments (s : State) : (s.judgeRefuges).segments = s.segments := rfl
@[simp] theorem State.judgeRefuges_trucks (s : State) : (s.judgeRefuges).trucks = s.trucks := rfl
@[simp] theorem State.judgeRefuges_road (s : State) : (s.judgeRefuges).road = s.road := rfl
@[simp] theorem State.judgeRefuges_withdrawal (s : State) : (s.judgeRefuges).withdrawal = s.withdrawal := rfl
@[simp] theorem State.judgeRefuges_entries (s : State) : (s.judgeRefuges).entries = s.entries := rfl
@[simp] theorem State.judgeRefuges_signals (s : State) : (s.judgeRefuges).signals = s.signals := rfl
@[simp] theorem State.judgeRefuges_faultLine (s : State) : (s.judgeRefuges).faultLine = s.faultLine := rfl
@[simp] theorem State.judgeRefuges_ports (s : State) : (s.judgeRefuges).ports = s.ports := rfl
@[simp] theorem State.judgeRefuges_settings (s : State) : (s.judgeRefuges).settings = s.settings := rfl
@[simp] theorem State.judgeRefuges_monitor (s : State) : (s.judgeRefuges).monitor = s.monitor := rfl
@[simp] theorem State.judgeRefuges_supply (s : State) : (s.judgeRefuges).supply = s.supply := rfl
@[simp] theorem State.judgeRefuges_pending (s : State) : (s.judgeRefuges).pending = s.pending := rfl
@[simp] theorem State.judgeRefuges_port (s : State) (q : PortId) : (s.judgeRefuges).port q = s.port q := rfl
@[simp] theorem State.judgeRefuges_line (s : State) (l : LineNo) : (s.judgeRefuges).line l = s.line l := rfl
@[simp] theorem State.judgeRefuges_image (s : State) : (s.judgeRefuges).image = s.image := rfl
@[simp] theorem State.judgeRefuges_now (s : State) : (s.judgeRefuges).now = s.now := rfl

/-! ### `State.ageRoster` -/

@[simp] theorem State.ageRoster_tick (s : State) : (s.ageRoster).tick = s.tick := rfl
@[simp] theorem State.ageRoster_clock (s : State) : (s.ageRoster).clock = s.clock := rfl
@[simp] theorem State.ageRoster_lines (s : State) : (s.ageRoster).lines = s.lines := rfl
@[simp] theorem State.ageRoster_stations (s : State) : (s.ageRoster).stations = s.stations := rfl
@[simp] theorem State.ageRoster_delivery (s : State) : (s.ageRoster).delivery = s.delivery := rfl
@[simp] theorem State.ageRoster_points (s : State) : (s.ageRoster).points = s.points := rfl
@[simp] theorem State.ageRoster_zones (s : State) : (s.ageRoster).zones = s.zones := rfl
@[simp] theorem State.ageRoster_alarms (s : State) : (s.ageRoster).alarms = s.alarms := rfl
@[simp] theorem State.ageRoster_trips (s : State) : (s.ageRoster).trips = s.trips := rfl
@[simp] theorem State.ageRoster_calls (s : State) : (s.ageRoster).calls = s.calls := rfl
@[simp] theorem State.ageRoster_segments (s : State) : (s.ageRoster).segments = s.segments := rfl
@[simp] theorem State.ageRoster_trucks (s : State) : (s.ageRoster).trucks = s.trucks := rfl
@[simp] theorem State.ageRoster_road (s : State) : (s.ageRoster).road = s.road := rfl
@[simp] theorem State.ageRoster_refuges (s : State) : (s.ageRoster).refuges = s.refuges := rfl
@[simp] theorem State.ageRoster_withdrawal (s : State) : (s.ageRoster).withdrawal = s.withdrawal := rfl
@[simp] theorem State.ageRoster_entries (s : State) : (s.ageRoster).entries = s.entries := rfl
@[simp] theorem State.ageRoster_signals (s : State) : (s.ageRoster).signals = s.signals := rfl
@[simp] theorem State.ageRoster_faultLine (s : State) : (s.ageRoster).faultLine = s.faultLine := rfl
@[simp] theorem State.ageRoster_ports (s : State) : (s.ageRoster).ports = s.ports := rfl
@[simp] theorem State.ageRoster_settings (s : State) : (s.ageRoster).settings = s.settings := rfl
@[simp] theorem State.ageRoster_monitor (s : State) : (s.ageRoster).monitor = s.monitor := rfl
@[simp] theorem State.ageRoster_supply (s : State) : (s.ageRoster).supply = s.supply := rfl
@[simp] theorem State.ageRoster_pending (s : State) : (s.ageRoster).pending = s.pending := rfl
@[simp] theorem State.ageRoster_port (s : State) (q : PortId) : (s.ageRoster).port q = s.port q := rfl
@[simp] theorem State.ageRoster_line (s : State) (l : LineNo) : (s.ageRoster).line l = s.line l := rfl
@[simp] theorem State.ageRoster_image (s : State) : (s.ageRoster).image = s.image := rfl
@[simp] theorem State.ageRoster_now (s : State) : (s.ageRoster).now = s.now := rfl

/-! ### `State.restartLinger` -/

@[simp] theorem State.restartLinger_tick (s : State) : (s.restartLinger).tick = s.tick := rfl
@[simp] theorem State.restartLinger_clock (s : State) : (s.restartLinger).clock = s.clock := rfl
@[simp] theorem State.restartLinger_lines (s : State) : (s.restartLinger).lines = s.lines := rfl
@[simp] theorem State.restartLinger_stations (s : State) : (s.restartLinger).stations = s.stations := rfl
@[simp] theorem State.restartLinger_delivery (s : State) : (s.restartLinger).delivery = s.delivery := rfl
@[simp] theorem State.restartLinger_points (s : State) : (s.restartLinger).points = s.points := rfl
@[simp] theorem State.restartLinger_zones (s : State) : (s.restartLinger).zones = s.zones := rfl
@[simp] theorem State.restartLinger_alarms (s : State) : (s.restartLinger).alarms = s.alarms := rfl
@[simp] theorem State.restartLinger_trips (s : State) : (s.restartLinger).trips = s.trips := rfl
@[simp] theorem State.restartLinger_calls (s : State) : (s.restartLinger).calls = s.calls := rfl
@[simp] theorem State.restartLinger_segments (s : State) : (s.restartLinger).segments = s.segments := rfl
@[simp] theorem State.restartLinger_trucks (s : State) : (s.restartLinger).trucks = s.trucks := rfl
@[simp] theorem State.restartLinger_road (s : State) : (s.restartLinger).road = s.road := rfl
@[simp] theorem State.restartLinger_refuges (s : State) : (s.restartLinger).refuges = s.refuges := rfl
@[simp] theorem State.restartLinger_withdrawal (s : State) : (s.restartLinger).withdrawal = s.withdrawal := rfl
@[simp] theorem State.restartLinger_entries (s : State) : (s.restartLinger).entries = s.entries := rfl
@[simp] theorem State.restartLinger_signals (s : State) : (s.restartLinger).signals = s.signals := rfl
@[simp] theorem State.restartLinger_faultLine (s : State) : (s.restartLinger).faultLine = s.faultLine := rfl
@[simp] theorem State.restartLinger_ports (s : State) : (s.restartLinger).ports = s.ports := rfl
@[simp] theorem State.restartLinger_settings (s : State) : (s.restartLinger).settings = s.settings := rfl
@[simp] theorem State.restartLinger_monitor (s : State) : (s.restartLinger).monitor = s.monitor := rfl
@[simp] theorem State.restartLinger_supply (s : State) : (s.restartLinger).supply = s.supply := rfl
@[simp] theorem State.restartLinger_pending (s : State) : (s.restartLinger).pending = s.pending := rfl
@[simp] theorem State.restartLinger_port (s : State) (q : PortId) : (s.restartLinger).port q = s.port q := rfl
@[simp] theorem State.restartLinger_line (s : State) (l : LineNo) : (s.restartLinger).line l = s.line l := rfl
@[simp] theorem State.restartLinger_image (s : State) : (s.restartLinger).image = s.image := rfl
@[simp] theorem State.restartLinger_now (s : State) : (s.restartLinger).now = s.now := rfl

/-! ### `State.passTick` -/

@[simp] theorem State.passTick_clock (s : State) : (s.passTick).clock = s.clock := rfl
@[simp] theorem State.passTick_lines (s : State) : (s.passTick).lines = s.lines := rfl
@[simp] theorem State.passTick_stations (s : State) : (s.passTick).stations = s.stations := rfl
@[simp] theorem State.passTick_delivery (s : State) : (s.passTick).delivery = s.delivery := rfl
@[simp] theorem State.passTick_points (s : State) : (s.passTick).points = s.points := rfl
@[simp] theorem State.passTick_zones (s : State) : (s.passTick).zones = s.zones := rfl
@[simp] theorem State.passTick_alarms (s : State) : (s.passTick).alarms = s.alarms := rfl
@[simp] theorem State.passTick_trips (s : State) : (s.passTick).trips = s.trips := rfl
@[simp] theorem State.passTick_roster (s : State) : (s.passTick).roster = s.roster := rfl
@[simp] theorem State.passTick_calls (s : State) : (s.passTick).calls = s.calls := rfl
@[simp] theorem State.passTick_segments (s : State) : (s.passTick).segments = s.segments := rfl
@[simp] theorem State.passTick_trucks (s : State) : (s.passTick).trucks = s.trucks := rfl
@[simp] theorem State.passTick_road (s : State) : (s.passTick).road = s.road := rfl
@[simp] theorem State.passTick_refuges (s : State) : (s.passTick).refuges = s.refuges := rfl
@[simp] theorem State.passTick_withdrawal (s : State) : (s.passTick).withdrawal = s.withdrawal := rfl
@[simp] theorem State.passTick_entries (s : State) : (s.passTick).entries = s.entries := rfl
@[simp] theorem State.passTick_signals (s : State) : (s.passTick).signals = s.signals := rfl
@[simp] theorem State.passTick_faultLine (s : State) : (s.passTick).faultLine = s.faultLine := rfl
@[simp] theorem State.passTick_ports (s : State) : (s.passTick).ports = s.ports := rfl
@[simp] theorem State.passTick_settings (s : State) : (s.passTick).settings = s.settings := rfl
@[simp] theorem State.passTick_monitor (s : State) : (s.passTick).monitor = s.monitor := rfl
@[simp] theorem State.passTick_supply (s : State) : (s.passTick).supply = s.supply := rfl
@[simp] theorem State.passTick_pending (s : State) : (s.passTick).pending = s.pending := rfl
@[simp] theorem State.passTick_port (s : State) (q : PortId) : (s.passTick).port q = s.port q := rfl
@[simp] theorem State.passTick_line (s : State) (l : LineNo) : (s.passTick).line l = s.line l := rfl
@[simp] theorem State.passTick_image (s : State) : (s.passTick).image = s.image := rfl
@[simp] theorem State.passTick_now (s : State) : (s.passTick).now = s.now := rfl

/-! ### `State.nextSecond` -/

@[simp] theorem State.nextSecond_tick (s : State) : (s.nextSecond).tick = s.tick := rfl
@[simp] theorem State.nextSecond_lines (s : State) : (s.nextSecond).lines = s.lines := rfl
@[simp] theorem State.nextSecond_stations (s : State) : (s.nextSecond).stations = s.stations := rfl
@[simp] theorem State.nextSecond_delivery (s : State) : (s.nextSecond).delivery = s.delivery := rfl
@[simp] theorem State.nextSecond_points (s : State) : (s.nextSecond).points = s.points := rfl
@[simp] theorem State.nextSecond_zones (s : State) : (s.nextSecond).zones = s.zones := rfl
@[simp] theorem State.nextSecond_alarms (s : State) : (s.nextSecond).alarms = s.alarms := rfl
@[simp] theorem State.nextSecond_trips (s : State) : (s.nextSecond).trips = s.trips := rfl
@[simp] theorem State.nextSecond_roster (s : State) : (s.nextSecond).roster = s.roster := rfl
@[simp] theorem State.nextSecond_calls (s : State) : (s.nextSecond).calls = s.calls := rfl
@[simp] theorem State.nextSecond_segments (s : State) : (s.nextSecond).segments = s.segments := rfl
@[simp] theorem State.nextSecond_trucks (s : State) : (s.nextSecond).trucks = s.trucks := rfl
@[simp] theorem State.nextSecond_road (s : State) : (s.nextSecond).road = s.road := rfl
@[simp] theorem State.nextSecond_refuges (s : State) : (s.nextSecond).refuges = s.refuges := rfl
@[simp] theorem State.nextSecond_withdrawal (s : State) : (s.nextSecond).withdrawal = s.withdrawal := rfl
@[simp] theorem State.nextSecond_entries (s : State) : (s.nextSecond).entries = s.entries := rfl
@[simp] theorem State.nextSecond_signals (s : State) : (s.nextSecond).signals = s.signals := rfl
@[simp] theorem State.nextSecond_faultLine (s : State) : (s.nextSecond).faultLine = s.faultLine := rfl
@[simp] theorem State.nextSecond_ports (s : State) : (s.nextSecond).ports = s.ports := rfl
@[simp] theorem State.nextSecond_settings (s : State) : (s.nextSecond).settings = s.settings := rfl
@[simp] theorem State.nextSecond_monitor (s : State) : (s.nextSecond).monitor = s.monitor := rfl
@[simp] theorem State.nextSecond_supply (s : State) : (s.nextSecond).supply = s.supply := rfl
@[simp] theorem State.nextSecond_pending (s : State) : (s.nextSecond).pending = s.pending := rfl
@[simp] theorem State.nextSecond_port (s : State) (q : PortId) : (s.nextSecond).port q = s.port q := rfl
@[simp] theorem State.nextSecond_line (s : State) (l : LineNo) : (s.nextSecond).line l = s.line l := rfl
@[simp] theorem State.nextSecond_image (s : State) : (s.nextSecond).image = s.image := rfl

/-! ### `State.startPass` -/

@[simp] theorem State.startPass_tick (s : State) : (s.startPass).tick = s.tick := rfl
@[simp] theorem State.startPass_clock (s : State) : (s.startPass).clock = s.clock := rfl
@[simp] theorem State.startPass_lines (s : State) : (s.startPass).lines = s.lines := rfl
@[simp] theorem State.startPass_stations (s : State) : (s.startPass).stations = s.stations := rfl
@[simp] theorem State.startPass_delivery (s : State) : (s.startPass).delivery = s.delivery := rfl
@[simp] theorem State.startPass_points (s : State) : (s.startPass).points = s.points := rfl
@[simp] theorem State.startPass_zones (s : State) : (s.startPass).zones = s.zones := rfl
@[simp] theorem State.startPass_alarms (s : State) : (s.startPass).alarms = s.alarms := rfl
@[simp] theorem State.startPass_trips (s : State) : (s.startPass).trips = s.trips := rfl
@[simp] theorem State.startPass_roster (s : State) : (s.startPass).roster = s.roster := rfl
@[simp] theorem State.startPass_calls (s : State) : (s.startPass).calls = s.calls := rfl
@[simp] theorem State.startPass_segments (s : State) : (s.startPass).segments = s.segments := rfl
@[simp] theorem State.startPass_trucks (s : State) : (s.startPass).trucks = s.trucks := rfl
@[simp] theorem State.startPass_road (s : State) : (s.startPass).road = s.road := rfl
@[simp] theorem State.startPass_refuges (s : State) : (s.startPass).refuges = s.refuges := rfl
@[simp] theorem State.startPass_withdrawal (s : State) : (s.startPass).withdrawal = s.withdrawal := rfl
@[simp] theorem State.startPass_entries (s : State) : (s.startPass).entries = s.entries := rfl
@[simp] theorem State.startPass_signals (s : State) : (s.startPass).signals = s.signals := rfl
@[simp] theorem State.startPass_faultLine (s : State) : (s.startPass).faultLine = s.faultLine := rfl
@[simp] theorem State.startPass_ports (s : State) : (s.startPass).ports = s.ports := rfl
@[simp] theorem State.startPass_settings (s : State) : (s.startPass).settings = s.settings := rfl
@[simp] theorem State.startPass_supply (s : State) : (s.startPass).supply = s.supply := rfl
@[simp] theorem State.startPass_pending (s : State) : (s.startPass).pending = s.pending := rfl
@[simp] theorem State.startPass_port (s : State) (q : PortId) : (s.startPass).port q = s.port q := rfl
@[simp] theorem State.startPass_line (s : State) (l : LineNo) : (s.startPass).line l = s.line l := rfl
@[simp] theorem State.startPass_image (s : State) : (s.startPass).image = s.image := rfl
@[simp] theorem State.startPass_now (s : State) : (s.startPass).now = s.now := rfl

/-! ### `State.countPass` -/

@[simp] theorem State.countPass_tick (s : State) : (s.countPass).tick = s.tick := rfl
@[simp] theorem State.countPass_clock (s : State) : (s.countPass).clock = s.clock := rfl
@[simp] theorem State.countPass_lines (s : State) : (s.countPass).lines = s.lines := rfl
@[simp] theorem State.countPass_stations (s : State) : (s.countPass).stations = s.stations := rfl
@[simp] theorem State.countPass_delivery (s : State) : (s.countPass).delivery = s.delivery := rfl
@[simp] theorem State.countPass_points (s : State) : (s.countPass).points = s.points := rfl
@[simp] theorem State.countPass_zones (s : State) : (s.countPass).zones = s.zones := rfl
@[simp] theorem State.countPass_alarms (s : State) : (s.countPass).alarms = s.alarms := rfl
@[simp] theorem State.countPass_trips (s : State) : (s.countPass).trips = s.trips := rfl
@[simp] theorem State.countPass_roster (s : State) : (s.countPass).roster = s.roster := rfl
@[simp] theorem State.countPass_calls (s : State) : (s.countPass).calls = s.calls := rfl
@[simp] theorem State.countPass_segments (s : State) : (s.countPass).segments = s.segments := rfl
@[simp] theorem State.countPass_trucks (s : State) : (s.countPass).trucks = s.trucks := rfl
@[simp] theorem State.countPass_road (s : State) : (s.countPass).road = s.road := rfl
@[simp] theorem State.countPass_refuges (s : State) : (s.countPass).refuges = s.refuges := rfl
@[simp] theorem State.countPass_withdrawal (s : State) : (s.countPass).withdrawal = s.withdrawal := rfl
@[simp] theorem State.countPass_entries (s : State) : (s.countPass).entries = s.entries := rfl
@[simp] theorem State.countPass_signals (s : State) : (s.countPass).signals = s.signals := rfl
@[simp] theorem State.countPass_faultLine (s : State) : (s.countPass).faultLine = s.faultLine := rfl
@[simp] theorem State.countPass_ports (s : State) : (s.countPass).ports = s.ports := rfl
@[simp] theorem State.countPass_settings (s : State) : (s.countPass).settings = s.settings := rfl
@[simp] theorem State.countPass_supply (s : State) : (s.countPass).supply = s.supply := rfl
@[simp] theorem State.countPass_pending (s : State) : (s.countPass).pending = s.pending := rfl
@[simp] theorem State.countPass_port (s : State) (q : PortId) : (s.countPass).port q = s.port q := rfl
@[simp] theorem State.countPass_line (s : State) (l : LineNo) : (s.countPass).line l = s.line l := rfl
@[simp] theorem State.countPass_image (s : State) : (s.countPass).image = s.image := rfl
@[simp] theorem State.countPass_now (s : State) : (s.countPass).now = s.now := rfl

/-! ### The written record itself -/

@[simp] theorem Lines.get_upd (l : Lines) (a b : LineNo) (f : LineRec → LineRec) :
    (l.upd a f).get b = if a = b then f (l.get b) else l.get b := by
  cases a <;> cases b <;> rfl

@[simp] theorem Ports.get_upd (l : Ports) (p q : PortId) (f : PortRec → PortRec) :
    (l.upd p f).get q = if p = q then f (l.get q) else l.get q := by
  cases p <;> cases q <;> rfl

theorem State.updLine_line (a b : LineNo) (f : LineRec → LineRec) (s : State) :
    (s.updLine a f).line b = if a = b then f (s.line b) else s.line b := Lines.get_upd ..

theorem State.updPort_port (p q : PortId) (f : PortRec → PortRec) (s : State) :
    (s.updPort p f).port q = if p = q then f (s.port q) else s.port q := Ports.get_upd ..

@[simp] theorem State.updLine_line_self (a : LineNo) (f : LineRec → LineRec) (s : State) :
    (s.updLine a f).line a = f (s.line a) := by simp [updLine_line]

@[simp] theorem State.updPort_port_self (p : PortId) (f : PortRec → PortRec) (s : State) :
    (s.updPort p f).port p = f (s.port p) := by simp [updPort_port]

theorem State.updStation_get (st j : StationNo) (f : StationRec → StationRec) (s : State) :
    (s.updStation st f).stations[j.1] = if st = j then Option.map f s.stations[j.1] else s.stations[j.1] := by
  simp only [State.updStation, upd_get, Fin.ext_iff]

theorem State.updPoint_get (pt j : PointNo) (f : PointRt → PointRt) (s : State) :
    (s.updPoint pt f).points[j.1] = if pt = j then f s.points[j.1] else s.points[j.1] := by
  simp only [State.updPoint, upd_get, Fin.ext_iff]

theorem State.updZone_get (z j : Zone) (f : ZoneRec → ZoneRec) (s : State) :
    (s.updZone z f).zones[j.1] = if z = j then f s.zones[j.1] else s.zones[j.1] := by
  simp only [State.updZone, upd_get, Fin.ext_iff]

theorem State.updTrip_get (k j : OutNo) (f : TripOut → TripOut) (s : State) :
    (s.updTrip k f).trips[j.1] = if k = j then f s.trips[j.1] else s.trips[j.1] := by
  simp only [State.updTrip, upd_get, Fin.ext_iff]

theorem State.updSegment_get (k j : SegNo) (f : Segment → Segment) (s : State) :
    (s.updSegment k f).segments[j.1] = if k = j then f s.segments[j.1] else s.segments[j.1] := by
  simp only [State.updSegment, upd_get, Fin.ext_iff]

theorem State.updTruck_get (t j : TruckNo) (f : TruckRec → TruckRec) (s : State) :
    (s.updTruck t f).trucks[j.1] = if t = j then f s.trucks[j.1] else s.trucks[j.1] := by
  simp only [State.updTruck, upd_get, Fin.ext_iff]

theorem State.updRefuge_get (n j : RefugeNo) (f : RefugeRec → RefugeRec) (s : State) :
    (s.updRefuge n f).refuges[j.1] = if n = j then f s.refuges[j.1] else s.refuges[j.1] := by
  simp only [State.updRefuge, upd_get, Fin.ext_iff]

theorem State.updEntry_get (n j : EntryNo) (f : EntryRt → EntryRt) (s : State) :
    (s.updEntry n f).entries[j.1] = if n = j then f s.entries[j.1] else s.entries[j.1] := by
  simp only [State.updEntry, upd_get, Fin.ext_iff]

theorem State.updSignal_get (k j : OutNo) (f : SignalOut → SignalOut) (s : State) :
    (s.updSignal k f).signals[j.1] = if k = j then f s.signals[j.1] else s.signals[j.1] := by
  simp only [State.updSignal, upd_get, Fin.ext_iff]

end Sys2Proof.Machine
end

