-- ==== Sys2Proof/Laws/Frames.lean ====
section
/-!
SUPPORT. The frame of every shared operation: the areas of the state it can change (`State.SameBut`). A longer operation's
frame is put together from those of its pieces with `State.SameBut.into`.
-/

-- The proofs are checked one after the other, within the memory that a check is given.
set_option Elab.async false

namespace Sys2Proof.Machine

/-! ### Putting frames together -/

theorem State.SameAt.rfl {s : State} : ∀ {a : Area}, s.SameAt s a
  | .tick | .clock | .lines | .delivery | .points | .zones | .alarms | .roster | .calls | .segments | .trucks | .road
  | .refuges | .withdrawal | .entries | .settings | .monitor | .supply | .pending => Eq.refl _
  | .stations | .lamps | .forced | .tripHolders | .signalHolders | .links | .requests | .notices | .responses =>
    fun _ => Eq.refl _
  | .outputs => ⟨fun _ => ⟨Eq.refl _, Eq.refl _, Eq.refl _⟩, Eq.refl _⟩

theorem State.SameAt.trans {s t u : State} : ∀ {a : Area}, s.SameAt t a → t.SameAt u a → s.SameAt u a
  | .tick, h, k | .clock, h, k | .lines, h, k | .delivery, h, k | .points, h, k | .zones, h, k | .alarms, h, k
  | .roster, h, k | .calls, h, k | .segments, h, k | .trucks, h, k | .road, h, k | .refuges, h, k
  | .withdrawal, h, k | .entries, h, k | .settings, h, k | .monitor, h, k | .supply, h, k | .pending, h, k =>
    Eq.trans k h
  | .stations, h, k | .lamps, h, k | .forced, h, k | .tripHolders, h, k | .signalHolders, h, k | .links, h, k
  | .requests, h, k | .notices, h, k | .responses, h, k => fun x => (k x).trans (h x)
  | .outputs, h, k =>
    ⟨fun x => ⟨(k.1 x).1.trans (h.1 x).1, (k.1 x).2.1.trans (h.1 x).2.1, (k.1 x).2.2.trans (h.1 x).2.2⟩,
      k.2.trans h.2⟩

theorem State.sameBut_refl {l : List Area} (s : State) : State.SameBut l s s := ⟨fun _ _ => .rfl⟩

/-- A frame holds with every larger list of areas. -/
theorem State.SameBut.mono {l l' : List Area} {s t : State} (h : State.SameBut l s t) (hl : ∀ a ∈ l, a ∈ l' := by decide) :
    State.SameBut l' s t := ⟨fun a ha => h.same a fun m => ha (hl a m)⟩

/-- One operation more. -/
theorem State.SameBut.into {l l' : List Area} {s t u : State} (h : State.SameBut l s t) (k : State.SameBut l' t u)
    (hl : ∀ a ∈ l', a ∈ l := by decide) : State.SameBut l s u :=
  ⟨fun a ha => (h.same a ha).trans (k.same a fun m => ha (hl a m))⟩

theorem State.SameBut.forEach {α : Type} {l : List Area} {f : α → State → State}
    (h : ∀ x s, State.SameBut l s (f x s)) (xs : List α) (s : State) : State.SameBut l s (forEach xs f s) :=
  forEach_ind (State.SameBut l s) xs f (fun x t ht => ht.into (h x t) fun _ m => m) s (sameBut_refl s)

/-! ### Updates of one record -/

theorem State.updLine_same (ln : LineNo) (f : LineRec → LineRec) (s : State) : State.SameBut [.lines] s (s.updLine ln f) := by
  refine ⟨fun a h => ?_⟩
  cases a <;> first | exact absurd (by decide) h | rfl | exact fun _ => rfl | exact ⟨fun _ => ⟨rfl, rfl, rfl⟩, rfl⟩

theorem State.updPoint_same (pt : PointNo) (f : PointRt → PointRt) (s : State) : State.SameBut [.points] s (s.updPoint pt f) := by
  refine ⟨fun a h => ?_⟩
  cases a <;> first | exact absurd (by decide) h | rfl | exact fun _ => rfl | exact ⟨fun _ => ⟨rfl, rfl, rfl⟩, rfl⟩

theorem State.updZone_same (z : Zone) (f : ZoneRec → ZoneRec) (s : State) : State.SameBut [.zones] s (s.updZone z f) := by
  refine ⟨fun a h => ?_⟩
  cases a <;> first | exact absurd (by decide) h | rfl | exact fun _ => rfl | exact ⟨fun _ => ⟨rfl, rfl, rfl⟩, rfl⟩

theorem State.updSegment_same (k : SegNo) (f : Segment → Segment) (s : State) : State.SameBut [.segments] s (s.updSegment k f) := by
  refine ⟨fun a h => ?_⟩
  cases a <;> first | exact absurd (by decide) h | rfl | exact fun _ => rfl | exact ⟨fun _ => ⟨rfl, rfl, rfl⟩, rfl⟩

theorem State.updTruck_same (t : TruckNo) (f : TruckRec → TruckRec) (s : State) : State.SameBut [.trucks] s (s.updTruck t f) := by
  refine ⟨fun a h => ?_⟩
  cases a <;> first | exact absurd (by decide) h | rfl | exact fun _ => rfl | exact ⟨fun _ => ⟨rfl, rfl, rfl⟩, rfl⟩

theorem State.updRefuge_same (n : RefugeNo) (f : RefugeRec → RefugeRec) (s : State) : State.SameBut [.refuges] s (s.updRefuge n f) := by
  refine ⟨fun a h => ?_⟩
  cases a <;> first | exact absurd (by decide) h | rfl | exact fun _ => rfl | exact ⟨fun _ => ⟨rfl, rfl, rfl⟩, rfl⟩

theorem State.updEntry_same (n : EntryNo) (f : EntryRt → EntryRt) (s : State) : State.SameBut [.entries] s (s.updEntry n f) := by
  refine ⟨fun a h => ?_⟩
  cases a <;> first | exact absurd (by decide) h | rfl | exact fun _ => rfl | exact ⟨fun _ => ⟨rfl, rfl, rfl⟩, rfl⟩

theorem State.updMiner_same (t : Tag) (f : RosterRec → RosterRec) (s : State) : State.SameBut [.roster] s (s.updMiner t f) := by
  refine ⟨fun a h => ?_⟩
  cases a <;> first | exact absurd (by decide) h | rfl | exact fun _ => rfl | exact ⟨fun _ => ⟨rfl, rfl, rfl⟩, rfl⟩

theorem State.setRecords_same (rs : List RosterRec) (s : State) : State.SameBut [.roster] s (s.setRecords rs) := by
  refine ⟨fun a h => ?_⟩
  cases a <;> first | exact absurd (by decide) h | rfl | exact fun _ => rfl | exact ⟨fun _ => ⟨rfl, rfl, rfl⟩, rfl⟩

theorem State.setCalls_same (cs : List Call) (s : State) : State.SameBut [.calls] s (s.setCalls cs) := by
  refine ⟨fun a h => ?_⟩
  cases a <;> first | exact absurd (by decide) h | rfl | exact fun _ => rfl | exact ⟨fun _ => ⟨rfl, rfl, rfl⟩, rfl⟩

theorem State.updCall_same (n : Nat) (f : Call → Call) (s : State) : State.SameBut [.calls] s (s.updCall n f) := by
  refine ⟨fun a h => ?_⟩
  cases a <;> first | exact absurd (by decide) h | rfl | exact fun _ => rfl | exact ⟨fun _ => ⟨rfl, rfl, rfl⟩, rfl⟩

theorem State.dropCall_same (n : Nat) (s : State) : State.SameBut [.calls] s (s.dropCall n) := by
  refine ⟨fun a h => ?_⟩
  cases a <;> first | exact absurd (by decide) h | rfl | exact fun _ => rfl | exact ⟨fun _ => ⟨rfl, rfl, rfl⟩, rfl⟩

theorem State.updAlarm_same (z : Zone) (g : Grade) (f : AlarmRec → AlarmRec) (s : State) : State.SameBut [.alarms] s (s.updAlarm z g f) := by
  refine ⟨fun a h => ?_⟩
  cases a <;> first | exact absurd (by decide) h | rfl | exact fun _ => rfl | exact ⟨fun _ => ⟨rfl, rfl, rfl⟩, rfl⟩

theorem State.dropAlarm_same (z : Zone) (g : Grade) (s : State) : State.SameBut [.alarms] s (s.dropAlarm z g) := by
  refine ⟨fun a h => ?_⟩
  cases a <;> first | exact absurd (by decide) h | rfl | exact fun _ => rfl | exact ⟨fun _ => ⟨rfl, rfl, rfl⟩, rfl⟩

theorem State.setPass_same (x : Option Pass) (s : State) : State.SameBut [.monitor] s (s.setPass x) := by
  refine ⟨fun a h => ?_⟩
  cases a <;> first | exact absurd (by decide) h | rfl | exact fun _ => rfl | exact ⟨fun _ => ⟨rfl, rfl, rfl⟩, rfl⟩

theorem State.countPass_same (s : State) : State.SameBut [.monitor] s (s.countPass) := by
  refine ⟨fun a h => ?_⟩
  cases a <;> first | exact absurd (by decide) h | rfl | exact fun _ => rfl | exact ⟨fun _ => ⟨rfl, rfl, rfl⟩, rfl⟩

theorem State.startPass_same (s : State) : State.SameBut [.monitor] s (s.startPass) := by
  refine ⟨fun a h => ?_⟩
  cases a <;> first | exact absurd (by decide) h | rfl | exact fun _ => rfl | exact ⟨fun _ => ⟨rfl, rfl, rfl⟩, rfl⟩

theorem State.setEdit_same (e : Option Edit) (s : State) : State.SameBut [.settings] s (s.setEdit e) := by
  refine ⟨fun a h => ?_⟩
  cases a <;> first | exact absurd (by decide) h | rfl | exact fun _ => rfl | exact ⟨fun _ => ⟨rfl, rfl, rfl⟩, rfl⟩

theorem State.setSave_same (g : SaveStage) (s : State) : State.SameBut [.supply] s (s.setSave g) := by
  refine ⟨fun a h => ?_⟩
  cases a <;> first | exact absurd (by decide) h | rfl | exact fun _ => rfl | exact ⟨fun _ => ⟨rfl, rfl, rfl⟩, rfl⟩

theorem State.setMains_same (on : Bool) (s : State) : State.SameBut [.supply] s (s.setMains on) := by
  refine ⟨fun a h => ?_⟩
  cases a <;> first | exact absurd (by decide) h | rfl | exact fun _ => rfl | exact ⟨fun _ => ⟨rfl, rfl, rfl⟩, rfl⟩

theorem State.setBattLow_same (on : Bool) (s : State) : State.SameBut [.supply] s (s.setBattLow on) := by
  refine ⟨fun a h => ?_⟩
  cases a <;> first | exact absurd (by decide) h | rfl | exact fun _ => rfl | exact ⟨fun _ => ⟨rfl, rfl, rfl⟩, rfl⟩

theorem State.judgeRefuges_same (s : State) : State.SameBut [.refuges] s (s.judgeRefuges) := by
  refine ⟨fun a h => ?_⟩
  cases a <;> first | exact absurd (by decide) h | rfl | exact fun _ => rfl | exact ⟨fun _ => ⟨rfl, rfl, rfl⟩, rfl⟩

theorem State.ageRoster_same (s : State) : State.SameBut [.roster] s (s.ageRoster) := by
  refine ⟨fun a h => ?_⟩
  cases a <;> first | exact absurd (by decide) h | rfl | exact fun _ => rfl | exact ⟨fun _ => ⟨rfl, rfl, rfl⟩, rfl⟩

theorem State.restartLinger_same (s : State) : State.SameBut [.roster] s (s.restartLinger) := by
  refine ⟨fun a h => ?_⟩
  cases a <;> first | exact absurd (by decide) h | rfl | exact fun _ => rfl | exact ⟨fun _ => ⟨rfl, rfl, rfl⟩, rfl⟩

theorem State.passTick_same (s : State) : State.SameBut [.tick] s (s.passTick) := by
  refine ⟨fun a h => ?_⟩
  cases a <;> first | exact absurd (by decide) h | rfl | exact fun _ => rfl | exact ⟨fun _ => ⟨rfl, rfl, rfl⟩, rfl⟩

theorem State.nextSecond_same (s : State) : State.SameBut [.clock] s (s.nextSecond) := by
  refine ⟨fun a h => ?_⟩
  cases a <;> first | exact absurd (by decide) h | rfl | exact fun _ => rfl | exact ⟨fun _ => ⟨rfl, rfl, rfl⟩, rfl⟩

theorem State.with_delivery_same (x : List TruckNo) (s : State) : State.SameBut [.delivery] s { s with delivery := x } := by
  refine ⟨fun a h => ?_⟩
  cases a <;> first | exact absurd (by decide) h | rfl | exact fun _ => rfl | exact ⟨fun _ => ⟨rfl, rfl, rfl⟩, rfl⟩

theorem State.with_alarms_same (x : List AlarmRec) (s : State) : State.SameBut [.alarms] s { s with alarms := x } := by
  refine ⟨fun a h => ?_⟩
  cases a <;> first | exact absurd (by decide) h | rfl | exact fun _ => rfl | exact ⟨fun _ => ⟨rfl, rfl, rfl⟩, rfl⟩

theorem State.with_roster_same (x : Roster) (s : State) : State.SameBut [.roster] s { s with roster := x } := by
  refine ⟨fun a h => ?_⟩
  cases a <;> first | exact absurd (by decide) h | rfl | exact fun _ => rfl | exact ⟨fun _ => ⟨rfl, rfl, rfl⟩, rfl⟩

theorem State.with_calls_same (x : CallQueue) (s : State) : State.SameBut [.calls] s { s with calls := x } := by
  refine ⟨fun a h => ?_⟩
  cases a <;> first | exact absurd (by decide) h | rfl | exact fun _ => rfl | exact ⟨fun _ => ⟨rfl, rfl, rfl⟩, rfl⟩

theorem State.with_segments_same (x : Vector Segment 24) (s : State) : State.SameBut [.segments] s { s with segments := x } := by
  refine ⟨fun a h => ?_⟩
  cases a <;> first | exact absurd (by decide) h | rfl | exact fun _ => rfl | exact ⟨fun _ => ⟨rfl, rfl, rfl⟩, rfl⟩

theorem State.with_trucks_same (x : Vector TruckRec 16) (s : State) : State.SameBut [.trucks] s { s with trucks := x } := by
  refine ⟨fun a h => ?_⟩
  cases a <;> first | exact absurd (by decide) h | rfl | exact fun _ => rfl | exact ⟨fun _ => ⟨rfl, rfl, rfl⟩, rfl⟩

theorem State.with_road_same (x : RoadFigures) (s : State) : State.SameBut [.road] s { s with road := x } := by
  refine ⟨fun a h => ?_⟩
  cases a <;> first | exact absurd (by decide) h | rfl | exact fun _ => rfl | exact ⟨fun _ => ⟨rfl, rfl, rfl⟩, rfl⟩

theorem State.with_withdrawal_same (x : Withdrawal) (s : State) : State.SameBut [.withdrawal] s { s with withdrawal := x } := by
  refine ⟨fun a h => ?_⟩
  cases a <;> first | exact absurd (by decide) h | rfl | exact fun _ => rfl | exact ⟨fun _ => ⟨rfl, rfl, rfl⟩, rfl⟩

theorem State.with_entries_same (x : Vector EntryRt 24) (s : State) : State.SameBut [.entries] s { s with entries := x } := by
  refine ⟨fun a h => ?_⟩
  cases a <;> first | exact absurd (by decide) h | rfl | exact fun _ => rfl | exact ⟨fun _ => ⟨rfl, rfl, rfl⟩, rfl⟩

theorem State.with_settings_same (x : Settings) (s : State) : State.SameBut [.settings] s { s with settings := x } := by
  refine ⟨fun a h => ?_⟩
  cases a <;> first | exact absurd (by decide) h | rfl | exact fun _ => rfl | exact ⟨fun _ => ⟨rfl, rfl, rfl⟩, rfl⟩

theorem State.with_monitor_same (x : Monitor) (s : State) : State.SameBut [.monitor] s { s with monitor := x } := by
  refine ⟨fun a h => ?_⟩
  cases a <;> first | exact absurd (by decide) h | rfl | exact fun _ => rfl | exact ⟨fun _ => ⟨rfl, rfl, rfl⟩, rfl⟩

theorem State.with_supply_same (x : Supply) (s : State) : State.SameBut [.supply] s { s with supply := x } := by
  refine ⟨fun a h => ?_⟩
  cases a <;> first | exact absurd (by decide) h | rfl | exact fun _ => rfl | exact ⟨fun _ => ⟨rfl, rfl, rfl⟩, rfl⟩

theorem State.with_clock_same (x : Clock) (s : State) : State.SameBut [.clock] s { s with clock := x } := by
  refine ⟨fun a h => ?_⟩
  cases a <;> first | exact absurd (by decide) h | rfl | exact fun _ => rfl | exact ⟨fun _ => ⟨rfl, rfl, rfl⟩, rfl⟩

theorem State.with_pending_same (x : List Instr) (s : State) : State.SameBut [.pending] s { s with pending := x } := by
  refine ⟨fun a h => ?_⟩
  cases a <;> first | exact absurd (by decide) h | rfl | exact fun _ => rfl | exact ⟨fun _ => ⟨rfl, rfl, rfl⟩, rfl⟩

theorem State.with_stations_same (x : Vector (Option StationRec) 62) (s : State) : State.SameBut [.stations, .lamps] s { s with stations := x } := by
  refine ⟨fun a h => ?_⟩
  cases a <;> first | exact absurd (by decide) h | rfl | exact fun _ => rfl | exact ⟨fun _ => ⟨rfl, rfl, rfl⟩, rfl⟩


/-! ### Ports and notices -/

/-- An update of a port keeps each part of the record that its function keeps. -/
theorem State.updPort_same {l : List Area} (p : PortId) (f : PortRec → PortRec) (s : State)
    (hl : .links ∈ l ∨ (f (s.port p)).link = (s.port p).link)
    (hr : .requests ∈ l ∨ (f (s.port p)).requests = (s.port p).requests)
    (hn : .notices ∈ l ∨ (f (s.port p)).noticing = (s.port p).noticing)
    (ha : .responses ∈ l ∨ (f (s.port p)).answering = (s.port p).answering) :
    State.SameBut l s (s.updPort p f) := by
  have part : ∀ {β : Type} (g : PortRec → β), g (f (s.port p)) = g (s.port p) → ∀ q : PortId,
      g ((s.updPort p f).port q) = g (s.port q) := by
    intro β g h q
    rw [updPort_port]
    split
    · next e => subst e; exact h
    · rfl
  refine ⟨fun a h => ?_⟩
  cases a
  case links => exact part PortRec.link (hl.resolve_left h)
  case requests => exact part PortRec.requests (hr.resolve_left h)
  case notices => exact part PortRec.noticing (hn.resolve_left h)
  case responses => exact part PortRec.answering (ha.resolve_left h)
  all_goals first | rfl | exact fun _ => rfl | exact ⟨fun _ => ⟨rfl, rfl, rfl⟩, rfl⟩

theorem PortRec.push_keeps (n : Notice) (r : PortRec) :
    (r.push n).link = r.link ∧ (r.push n).requests = r.requests ∧ (r.push n).answering = r.answering := by
  unfold PortRec.push
  split
  · split <;> exact ⟨rfl, rfl, rfl⟩
  · exact ⟨rfl, rfl, rfl⟩

theorem State.push_same (p : PortId) (n : Notice) (s : State) :
    State.SameBut [.notices] s (s.updPort p (PortRec.push n)) :=
  State.updPort_same p _ s (.inr (PortRec.push_keeps ..).1) (.inr (PortRec.push_keeps ..).2.1)
    (.inl (by decide)) (.inr (PortRec.push_keeps ..).2.2)

theorem State.notifyOn_same (ps : List PortId) (n : Notice) (s : State) :
    State.SameBut [.notices] s (s.notifyOn ps n) :=
  State.SameBut.forEach (fun p s => State.push_same p n s) ps s

theorem State.notify_same (n : Notice) (s : State) : State.SameBut [.notices] s (s.notify n) :=
  State.notifyOn_same _ n s

/-- What the making of a response does: it joins the responses made, and waits for the notice being sent, if any. -/
theorem PortRec.make_keeps (r : Response) (x : PortRec) :
    (x.make r).link = x.link ∧ (x.make r).requests = x.requests ∧ (x.make r).noticing = x.noticing ∧
      (x.make r).responses = x.responses ++ [r] := by
  unfold PortRec.make
  split <;> exact ⟨rfl, rfl, rfl, rfl⟩

theorem State.respond_same (p : PortId) (r : Response) (s : State) :
    State.SameBut [.responses] s (s.respond p r) :=
  State.updPort_same p _ s (.inr (PortRec.make_keeps ..).1) (.inr (PortRec.make_keeps ..).2.1)
    (.inr (PortRec.make_keeps ..).2.2.1) (.inl (by decide))

/-- R156: a response made takes the line at once when no notice is being sent, and otherwise waits for it. -/
theorem PortRec.make_line (r : Response) (x : PortRec) :
    (x.notices = [] → (x.make r).sent = x.sent ++ [.response r] ∧ (x.make r).held = x.held) ∧
      (x.notices ≠ [] → (x.make r).sent = x.sent ∧ (x.make r).held = x.held ++ [r]) := by
  unfold PortRec.make
  cases h : x.notices <;> simp

/-- R156, R159: at the end of a notice everything that waited for the line goes out. -/
theorem PortRec.endNotice_line {x : PortRec} {n : Nat × Notice} {rest : List (Nat × Notice)} (h : x.notices = n :: rest) :
    x.endNotice = { x with
      notices := rest, held := [], sent := x.sent ++ Sent.notice n.1 n.2 :: x.held.map Sent.response } := by
  unfold PortRec.endNotice
  rw [h]

/-- What the end of a notice does: it changes the notices and what waits for the line, and nothing else of the port. -/
theorem PortRec.endNotice_keeps (x : PortRec) :
    x.endNotice.link = x.link ∧ x.endNotice.requests = x.requests ∧ x.endNotice.responses = x.responses ∧
      x.endNotice.notices = x.notices.tail := by
  unfold PortRec.endNotice
  split
  · next h => exact ⟨rfl, rfl, rfl, by rw [h]; rfl⟩
  · next h => exact ⟨rfl, rfl, rfl, by rw [h]; rfl⟩

theorem State.answer_same (p : PortId) (f : Frame) (res : Result) (d : Detail) (s : State) :
    State.SameBut [.responses] s (s.answer p f res d) := State.respond_same ..

theorem State.popRequest_same (p : PortId) (s : State) : State.SameBut [.requests] s (s.popRequest p) :=
  State.updPort_same p _ s (.inr rfl) (.inl (by decide)) (.inr rfl) (.inr rfl)

theorem State.setAssembly_same (p : PortId) (a : List Byte) (s : State) :
    State.SameBut [.links] s (s.setAssembly p a) :=
  State.updPort_same p _ s (.inl (by decide)) (.inr rfl) (.inr rfl) (.inr rfl)

theorem State.badFrame_same (p : PortId) (s : State) : State.SameBut [.links] s (s.badFrame p) :=
  State.updPort_same p _ s (.inl (by decide)) (.inr rfl) (.inr rfl) (.inr rfl)

/-- A notice reaches every port by its own push. -/
theorem State.notifyOn_port (ps : List PortId) (hp : ps.Nodup) (n : Notice) (s : State) (q : PortId) :
    (s.notifyOn ps n).port q = if q ∈ ps then (s.port q).push n else s.port q := by
  unfold State.notifyOn
  induction ps generalizing s with
  | nil => simp
  | cons p ps ih =>
    obtain ⟨h1, h2⟩ := List.nodup_cons.1 hp
    rw [forEach_cons, ih h2, updPort_port]
    by_cases e : p = q
    · subst e; simp [h1]
    · have e' : ¬ q = p := fun h => e h.symm
      simp [e, e']

@[simp] theorem State.notify_port (n : Notice) (s : State) (q : PortId) :
    (s.notify n).port q = (s.port q).push n := by
  rw [State.notify, State.notifyOn_port _ (by decide), if_pos (by cases q <;> decide)]

/-! ### Outputs -/

theorem State.judgeSignals_same (s : State) : State.SameBut [.outputs] s s.judgeSignals := by
  refine ⟨fun a h => ?_⟩
  cases a
  case outputs => exact absurd (by decide) h
  case signalHolders => exact fun k => by simp [State.judgeSignals]
  all_goals first | rfl | exact fun _ => rfl

theorem State.judgeFault_same (s : State) : State.SameBut [.outputs] s s.judgeFault := by
  refine ⟨fun a h => ?_⟩
  cases a
  case outputs => exact absurd (by decide) h
  all_goals first | rfl | exact fun _ => rfl

/-- A change of a trip output that keeps its forced flag and its holders. -/
theorem State.updTrip_same (k : OutNo) (f : TripOut → TripOut) (hf : ∀ o, (f o).forced = o.forced)
    (hh : ∀ o, (f o).holders = o.holders) (s : State) : State.SameBut [.outputs] s (s.updTrip k f) := by
  refine ⟨fun a h => ?_⟩
  cases a
  case outputs => exact absurd (by decide) h
  case forced => exact fun j => upd_proj TripOut.forced _ _ _ hf _ _
  case tripHolders => exact fun j => upd_proj TripOut.holders _ _ _ hh _ _
  all_goals first | rfl | exact fun _ => rfl

theorem State.setForcedFlag_same (k : OutNo) (on : Bool) (s : State) :
    State.SameBut [.forced] s (s.updTrip k fun o => { o with forced := on }) := by
  refine ⟨fun a h => ?_⟩
  cases a
  case outputs =>
    exact ⟨fun j => ⟨upd_proj TripOut.isOpen _ _ (fun o => { o with forced := on }) (fun _ => rfl) _ _,
      upd_proj TripOut.faultHold _ _ (fun o => { o with forced := on }) (fun _ => rfl) _ _, rfl⟩, rfl⟩
  case forced => exact absurd (by decide) h
  case tripHolders => exact fun j => upd_proj TripOut.holders _ _ (fun o => { o with forced := on }) (fun _ => rfl) _ _
  all_goals first | rfl | exact fun _ => rfl

theorem State.evalTrip_same (k : OutNo) (s : State) : State.SameBut [.outputs, .notices] s (s.evalTrip k) := by
  have h : ∀ (o f : Bool), State.SameBut [.outputs, .notices] s
      (s.updTrip k fun x => { x with isOpen := o, faultHold := f }) := fun o f =>
    State.SameBut.mono (State.updTrip_same k _ (by intro; rfl) (by intro; rfl) s)
  unfold State.evalTrip
  dsimp only
  split
  · exact h _ _
  · exact (h _ _).into (State.notify_same ..)

theorem State.evalTrips_same (s : State) : State.SameBut [.outputs, .notices] s s.evalTrips :=
  State.SameBut.forEach (fun k s => State.evalTrip_same k s) _ s

theorem State.settle_same (s : State) : State.SameBut [.outputs, .notices] s s.settle :=
  ((State.evalTrips_same s).into (State.judgeSignals_same _)).into (State.judgeFault_same _)

theorem State.answerOthers_same (fuel : Nat) (p : PortId) (s : State) :
    State.SameBut [.requests, .responses] s (s.answerOthers fuel p) := by
  induction fuel generalizing s with
  | zero => exact sameBut_refl s
  | succ n ih =>
    unfold State.answerOthers
    split
    · split
      · exact (((State.popRequest_same p s).mono).into (State.answer_same ..)).into (ih _)
      · exact sameBut_refl s
    · exact sameBut_refl s

theorem State.answerPorts_same (s : State) : State.SameBut [.requests, .responses] s s.answerPorts :=
  State.SameBut.forEach (fun p s => State.answerOthers_same 4 p s) _ s

/-- What the end of a command can change by itself. -/
theorem State.finish_same (s : State) : State.SameBut [.outputs, .notices, .requests, .responses] s s.finish :=
  (State.settle_same s).mono.into (State.answerPorts_same _)

end Sys2Proof.Machine
end

