-- ==== Sys2Proof/Laws/ChainFrames.lean ====
section
/-!
SUPPORT. The frames of the Haulage Controller, the Call Queue, the Roster Unit and the Interlock Table, up to the
chain that a change of the withdrawal state sets off (R128, R144).
-/

-- The proofs are checked one after the other, within the memory that a check is given.
set_option Elab.async false

namespace Sys2Proof.Machine

/-! ### Haulage -/

theorem State.recompute_same (t : TruckNo) (s : State) : State.SameBut [.trucks] s (s.recompute t) :=
  State.updTruck_same ..

theorem State.joinDelivery_same (t : TruckNo) (s : State) : State.SameBut [.delivery] s (s.joinDelivery t) := by
  unfold State.joinDelivery
  split
  · exact sameBut_refl s
  · exact State.with_delivery_same ..

theorem State.truckNotice_same (t : TruckNo) (s : State) : State.SameBut [.notices] s (s.truckNotice t) :=
  State.notify_same ..

theorem State.finishTruck_same (old : TruckRec) (t : TruckNo) (s : State) :
    State.SameBut [.delivery, .notices] s (s.finishTruck old t) := by
  have h : State.SameBut [.delivery, .notices] s
      (if s.trucks[t.1].view = old.view then s else s.joinDelivery t) := by
    split
    · exact sameBut_refl s
    · exact (State.joinDelivery_same t s).mono
  unfold State.finishTruck
  dsimp only
  split
  · exact h.into (State.truckNotice_same ..)
  · exact h

theorem State.releaseSegs_same (t : TruckNo) (ks : List SegNo) (s : State) :
    State.SameBut [.segments] s (s.releaseSegs t ks) :=
  State.SameBut.forEach (fun k s => State.updSegment_same k _ s) ks s

theorem State.cutTo_same (t : TruckNo) (last : SegNo) (s : State) :
    State.SameBut [.segments, .trucks] s (s.cutTo t last) := by
  unfold State.cutTo
  dsimp only
  split
  · exact sameBut_refl s
  · exact (State.releaseSegs_same ..).mono.into (State.updTruck_same ..)

theorem State.withdrawCut_same (s : State) :
    State.SameBut [.segments, .trucks, .delivery, .notices] s s.withdrawCut := by
  refine State.SameBut.forEach (fun t s => ?_) _ s
  dsimp only
  split
  · split
    · exact ((State.cutTo_same ..).mono.into (State.recompute_same ..)).into (State.finishTruck_same ..)
    · exact sameBut_refl s
  · exact sameBut_refl s

theorem State.blockTruck_same (newly gassed : SegNo → Bool) (t : TruckNo) (s : State) :
    State.SameBut [.segments, .trucks, .delivery, .notices] s (s.blockTruck newly gassed t) := by
  unfold State.blockTruck
  dsimp only
  split
  · exact sameBut_refl s
  · next run _ =>
    generalize (if (runSegs _ run).any newly then _ else run.last) = last
    have h : State.SameBut [.segments, .trucks, .delivery, .notices] s
        (if last = run.last then s else s.cutTo t last) := by
      split
      · exact sameBut_refl s
      · exact (State.cutTo_same ..).mono
    generalize (if last = run.last then s else s.cutTo t last) = u at h ⊢
    split
    · exact (h.into (State.recompute_same ..)).into (State.finishTruck_same ..)
    · exact h

theorem State.addReasons_same (f : SegNo → Segment → Segment) (gassed : SegNo → Bool) (s : State) :
    State.SameBut [.segments, .trucks, .delivery, .notices] s (s.addReasons f gassed) := by
  unfold State.addReasons
  dsimp only
  exact (State.with_segments_same ..).mono.into (State.SameBut.forEach (fun t s => State.blockTruck_same _ _ t s) _ _)

theorem State.setGas_same (z : Zone) (s : State) :
    State.SameBut [.segments, .trucks, .delivery, .notices] s (s.setGas z) := State.addReasons_same ..

theorem State.clearGas_same (z : Zone) (s : State) :
    State.SameBut [.segments, .trucks, .delivery, .notices] s (s.clearGas z) := by
  unfold State.clearGas
  dsimp only
  refine (State.with_segments_same ..).mono.into (State.SameBut.forEach (fun t s => ?_) _ _)
    (l' := [.segments, .trucks, .delivery, .notices])
  split
  · split
    · exact (State.updTruck_same ..).mono.into (State.finishTruck_same ..)
    · exact sameBut_refl s
  · exact sameBut_refl s

theorem State.interlockBlock_same (n : EntryNo) (mask : Nat) (on : Bool) (s : State) :
    State.SameBut [.segments, .trucks, .delivery, .notices] s (s.interlockBlock n mask on) := State.addReasons_same ..

theorem State.setManual_same (k : SegNo) (on : Bool) (s : State) :
    State.SameBut [.segments, .trucks, .delivery, .notices] s (s.setManual k on) := State.addReasons_same ..

theorem State.intrude_same (t : TruckNo) (seg : SegNo) (s : State) :
    State.SameBut [.trucks, .road, .notices] s (s.intrude t seg) := by
  unfold State.intrude
  dsimp only
  split
  · split
    · exact ((State.updTruck_same ..).mono.into (State.with_road_same ..)).into (State.notify_same ..)
    · exact (State.updTruck_same ..).mono
  · exact (State.updTruck_same ..).mono

theorem State.endIntrusion_same (t : TruckNo) (s : State) : State.SameBut [.trucks] s (s.endIntrusion t) :=
  State.updTruck_same ..

theorem State.setGrant_same (t : TruckNo) (asked : Nat) (o : GrantOutcome) (s : State) :
    State.SameBut [.trucks] s (s.setGrant t asked o) := State.updTruck_same ..

theorem State.place_same (t : TruckNo) (seg : SegNo) (run : Run) (s : State) :
    State.SameBut [.segments, .trucks, .road, .notices] s (s.place t seg run) := by
  unfold State.place
  dsimp only
  split
  · exact (State.endIntrusion_same ..).mono
  · split
    · exact ((State.releaseSegs_same ..).mono.into (State.updTruck_same ..)).into (State.endIntrusion_same ..)
    · exact (State.intrude_same ..).mono

theorem State.enter_same (t : TruckNo) (seg : SegNo) (asked : Nat) (s : State) :
    State.SameBut [.segments, .trucks, .road, .notices] s (s.enter t seg asked) := by
  unfold State.enter
  dsimp only
  split
  · exact (State.intrude_same ..).mono.into (State.setGrant_same ..)
  · split
    · exact (State.endIntrusion_same ..).mono.into (State.setGrant_same ..)
    · split
      · exact (State.endIntrusion_same ..).mono.into (State.setGrant_same ..)
      · exact ((State.updSegment_same ..).mono.into (State.updTruck_same ..)).into (State.endIntrusion_same ..)

theorem State.turn_same (t : TruckNo) (d : Direction) (s : State) :
    State.SameBut [.segments, .trucks] s (s.turn t d) := by
  unfold State.turn
  dsimp only
  split
  · exact sameBut_refl s
  · split
    · exact (State.cutTo_same ..).into (State.updTruck_same ..)
    · exact (State.updTruck_same ..).mono

theorem State.extend_same (fuel : Nat) (t : TruckNo) (asked : Nat) (s : State) :
    State.SameBut [.segments, .trucks] s (s.extend fuel t asked) := by
  induction fuel generalizing s with
  | zero => exact sameBut_refl s
  | succ n ih =>
    unfold State.extend
    dsimp only
    split
    · exact sameBut_refl s
    · split
      · exact (State.setGrant_same ..).mono
      · split
        · exact (State.setGrant_same ..).mono
        · exact ((State.updSegment_same ..).mono.into (State.updTruck_same ..)).into (ih _)

theorem State.grantStage_same (t : TruckNo) (asked : Nat) (s : State) :
    State.SameBut [.segments, .trucks] s (s.grantStage t asked) := by
  unfold State.grantStage
  split
  · exact sameBut_refl s
  · exact State.extend_same ..

theorem State.hear_same (t : TruckNo) (beacon : StationNo) (seg : SegNo) (r : TruckReport) (s : State) :
    State.SameBut [.segments, .trucks] s (s.hear t beacon seg r) := by
  unfold State.hear
  dsimp only
  split
  · exact (State.updTruck_same ..).mono
  · exact (State.updTruck_same ..).mono.into (State.with_segments_same ..)

theorem State.testOverspeed_same (t : TruckNo) (s : State) : State.SameBut [.trucks] s (s.testOverspeed t) :=
  State.updTruck_same ..

theorem State.acceptReport_same (t : TruckNo) (beacon : StationNo) (seg : SegNo) (r : TruckReport) (s : State) :
    State.SameBut [.segments, .trucks, .road, .delivery, .notices] s (s.acceptReport t beacon seg r) := by
  unfold State.acceptReport
  dsimp only
  refine State.SameBut.into ?_ (State.finishTruck_same ..)
  refine State.SameBut.into ?_ (State.testOverspeed_same ..)
  refine State.SameBut.into ?_ (State.recompute_same ..)
  refine State.SameBut.into ?_ (State.grantStage_same ..)
  refine State.SameBut.into ?_ (State.turn_same ..)
  split
  · exact (State.hear_same ..).mono.into (State.place_same ..)
  · exact (State.hear_same ..).mono.into (State.enter_same ..)

theorem State.truckReport_same (beacon : StationNo) (r : TruckReport) (s : State) :
    State.SameBut [.segments, .trucks, .road, .delivery, .notices] s (s.truckReport beacon r) := by
  unfold State.truckReport
  split
  · exact (State.with_road_same ..).mono
  · split
    · exact (State.with_road_same ..).mono
    · exact State.acceptReport_same ..

theorem State.loseTruck_same (t : TruckNo) (s : State) :
    State.SameBut [.segments, .trucks, .delivery, .notices] s (s.loseTruck t) := by
  unfold State.loseTruck
  dsimp only
  exact (((State.updTruck_same ..).mono.into (State.with_segments_same ..)).into (State.recompute_same ..)).into
    (State.finishTruck_same ..)

theorem State.clearTruckRec_same (t : TruckNo) (s : State) :
    State.SameBut [.segments, .trucks, .delivery, .notices] s (s.clearTruckRec t) := by
  unfold State.clearTruckRec
  dsimp only
  have h : ∀ sg dl, State.SameBut [.segments, .trucks, .delivery, .notices] s { s with segments := sg, delivery := dl } := by
    intro sg dl
    exact (State.with_segments_same sg s).mono.into (State.with_delivery_same dl { s with segments := sg })
  exact ((h _ _).into (State.updTruck_same ..)).into (State.truckNotice_same ..)

/-! ### Calls and lamp items -/

/-- A change of the station records that keeps all but their lamp lists. -/
theorem State.with_lamps_same (v : Vector (Option StationRec) 62) (s : State)
    (h : ∀ st : StationNo, v[st.1].map StationRec.bare = s.stations[st.1].map StationRec.bare) :
    State.SameBut [.lamps] s { s with stations := v } := by
  refine ⟨fun a m => ?_⟩
  cases a
  case lamps => exact absurd (by decide) m
  case stations => exact h
  all_goals first | rfl | exact fun _ => rfl | exact ⟨fun _ => ⟨rfl, rfl, rfl⟩, rfl⟩

theorem State.lampItem_same (tag : Tag) (kind : LampKind) (z : Zone) (s : State) :
    State.SameBut [.lamps] s (s.lampItem tag kind z) := by
  refine State.with_lamps_same _ s fun st => ?_
  simp only [updAll_get]
  split
  · cases s.stations[st.1] with
    | none => rfl
    | some r =>
      simp only [Option.map_some]
      split <;> rfl
  · rfl

theorem State.produceLamp_same (tag : Option Tag) (kind : LampKind) (z : Zone) (s : State) :
    State.SameBut [.lamps] s (s.produceLamp tag kind z) := by
  unfold State.produceLamp
  split
  · exact State.lampItem_same ..
  · exact sameBut_refl s

theorem State.setCallKind_same (n : Nat) (k : CallKind) (s : State) : State.SameBut [.calls] s (s.setCallKind n k) := by
  unfold State.setCallKind
  split
  · exact (State.dropCall_same ..).into (State.setCalls_same ..)
  · exact sameBut_refl s

theorem State.setOpenCall_same (tag : Option Tag) (n : Option Nat) (s : State) :
    State.SameBut [.roster] s (s.setOpenCall tag n) := by
  unfold State.setOpenCall
  split
  · exact State.updMiner_same ..
  · exact sameBut_refl s

theorem State.recomputeWindow_same (changed : List Nat) (s : State) :
    State.SameBut [.calls, .notices] s (s.recomputeWindow changed) := by
  unfold State.recomputeWindow
  dsimp only
  refine State.SameBut.into (l' := [.calls, .notices])
    (State.SameBut.into (l' := [.calls, .notices]) (State.SameBut.forEach (fun c s => ?_) _ _)
      (State.SameBut.forEach (fun c s => ?_) _ _)) (State.SameBut.forEach (fun c s => ?_) _ _)
  all_goals split
  all_goals first
    | exact sameBut_refl _
    | exact (State.notifyOn_same ..).mono
    | exact (State.updCall_same ..).mono.into (State.notifyOn_same ..)

theorem State.offerPortsChanged_same (old : List PortId) (s : State) :
    State.SameBut [.calls, .notices] s (s.offerPortsChanged old) := by
  unfold State.offerPortsChanged
  dsimp only
  apply State.SameBut.into (l' := [.calls, .notices]) (State.recomputeWindow_same [] s)
  refine State.SameBut.forEach (fun p s => State.SameBut.forEach (fun c s => ?_) _ _) _ _
  split
  · exact (State.notifyOn_same ..).mono
  · exact sameBut_refl _

theorem State.enterCall_same (tag : Option Tag) (z : Zone) (k : CallKind) (s : State) :
    State.SameBut [.roster, .calls, .notices] s (s.enterCall tag z k) := by
  unfold State.enterCall
  dsimp only
  exact ((State.with_calls_same ..).mono.into (State.setOpenCall_same ..)).into (State.recomputeWindow_same ..)

theorem State.raiseCall_same (tag : Option Tag) (z : Zone) (k : CallKind) (s : State) :
    State.SameBut [.lamps, .roster, .calls, .notices] s (s.raiseCall tag z k) := by
  unfold State.raiseCall
  dsimp only
  split
  · exact (State.enterCall_same ..).mono
  · split
    · split
      · refine State.SameBut.into ?_ (State.enterCall_same ..)
        refine State.SameBut.into ?_ (State.produceLamp_same ..)
        refine State.SameBut.into ?_ (State.setOpenCall_same ..)
        refine State.SameBut.into ?_ (State.notify_same ..)
        exact (State.dropCall_same ..).mono.into (State.with_calls_same _ (State.dropCall ..))
      · exact (State.with_calls_same _ s).mono.into (State.produceLamp_same ..)
    · exact (State.with_calls_same _ s).mono.into (State.produceLamp_same ..)

theorem State.raiseCallKind_same (n : Nat) (k : CallKind) (s : State) :
    State.SameBut [.calls, .notices] s (s.raiseCallKind n k) := by
  unfold State.raiseCallKind
  split
  · exact sameBut_refl s
  · dsimp only
    split
    · exact (State.setCallKind_same ..).mono.into (State.notifyOn_same ..)
    · exact (State.setCallKind_same ..).mono.into (State.recomputeWindow_same ..)

theorem State.takePress_same (tag : Tag) (z : Zone) (p : Press) (s : State) :
    State.SameBut [.lamps, .roster, .calls, .notices] s (s.takePress tag z p) := by
  have h : ∀ (c : Prop) [Decidable c] (n : Nat) (k : CallKind),
      State.SameBut [.lamps, .roster, .calls, .notices] s (if c then s.raiseCallKind n k else s) := by
    intro c _ n k
    split
    · exact (State.raiseCallKind_same ..).mono
    · exact sameBut_refl s
  unfold State.takePress
  dsimp only
  split
  · exact sameBut_refl s
  · split
    · exact State.raiseCall_same ..
    · split
      · exact (h _ _ _).into (State.produceLamp_same ..)
      · exact h _ _ _

theorem State.escalateAll_same (s : State) : State.SameBut [.calls, .notices] s s.escalateAll := by
  unfold State.escalateAll
  dsimp only
  split
  · exact sameBut_refl s
  · exact (State.SameBut.forEach (fun n s => State.setCallKind_same n _ s) _ _).mono.into (State.recomputeWindow_same ..)

theorem State.takeCallFor_same (p : PortId) (c : Call) (s : State) :
    State.SameBut [.lamps, .calls, .notices] s (s.takeCallFor p c) := by
  unfold State.takeCallFor
  dsimp only
  exact (((State.updCall_same ..).mono.into (State.notifyOn_same ..)).into (State.produceLamp_same ..)).into
    (State.recomputeWindow_same ..)

theorem State.releaseCallFrom_same (p : PortId) (c : Call) (s : State) :
    State.SameBut [.calls, .notices] s (s.releaseCallFrom p c) := by
  unfold State.releaseCallFrom
  dsimp only
  refine State.SameBut.into ?_ (State.notifyOn_same ..)
  split
  · exact (State.updCall_same ..).mono.into (State.setCallKind_same ..)
  · exact (State.updCall_same ..).mono

theorem State.closeCallFrom_same (p : PortId) (c : Call) (s : State) :
    State.SameBut [.roster, .calls, .notices] s (s.closeCallFrom p c) := by
  unfold State.closeCallFrom
  dsimp only
  exact ((State.dropCall_same ..).mono.into (State.setOpenCall_same ..)).into (State.notifyOn_same ..)

theorem State.portCallsReleased_same (p : PortId) (old : List PortId) (s : State) :
    State.SameBut [.calls, .notices] s (s.portCallsReleased p old) := by
  unfold State.portCallsReleased
  dsimp only
  exact (State.SameBut.forEach (fun c s => State.releaseCallFrom_same p c s) _ s).into (State.offerPortsChanged_same ..)

theorem State.advanceAge_same (c : Call) (s : State) : State.SameBut [.calls, .notices] s (s.advanceAge c) := by
  unfold State.advanceAge
  dsimp only
  split
  · exact (State.updCall_same ..).mono.into (State.raiseCallKind_same ..)
  · exact (State.updCall_same ..).mono

/-! ### The roster -/

theorem State.advanceUnseen_same (t : Tag) (s : State) : State.SameBut [.roster] s (s.advanceUnseen t) := by
  unfold State.advanceUnseen
  dsimp only
  exact (State.updMiner_same ..).into (State.with_roster_same _ (State.updMiner ..))

theorem State.sightRecord_same (t : Tag) (sub : ReaderSubtype) (z : Zone) (s : State) :
    State.SameBut [.roster] s (s.sightRecord t sub z) := by
  unfold State.sightRecord
  dsimp only
  repeat' split
  all_goals exact State.with_roster_same ..

theorem State.lingerAtOnce_same (t : Tag) (s : State) : State.SameBut [.roster] s (s.lingerAtOnce t) :=
  State.with_roster_same ..

theorem State.rosterTakesState_same (old : WState) (s : State) : State.SameBut [.roster] s (s.rosterTakesState old) := by
  unfold State.rosterTakesState
  split
  · exact State.ageRoster_same s
  · split
    · exact (State.restartLinger_same s).into (State.ageRoster_same _)
    · exact sameBut_refl s

/-! ### The Interlock Table and the withdrawal state -/

theorem State.holdOutputs_same (n : EntryNo) (a : Action) (on : Bool) (s : State) :
    State.SameBut [.tripHolders, .signalHolders] s (s.holdOutputs n a on) := by
  refine ⟨fun x h => ?_⟩
  cases x
  case tripHolders => exact absurd (by decide) h
  case signalHolders => exact absurd (by decide) h
  case outputs => exact ⟨fun k => by simp [State.holdOutputs], rfl⟩
  case forced => exact fun k => by simp [State.holdOutputs]
  all_goals first | rfl | exact fun _ => rfl

theorem State.applyLevel_same (n : EntryNo) (a : Action) (on : Bool) (s : State) :
    State.SameBut [.delivery, .tripHolders, .outputs, .segments, .trucks, .signalHolders, .notices] s
      (s.applyLevel n a on) := by
  unfold State.applyLevel
  split
  · exact (State.holdOutputs_same ..).mono
  · exact (State.holdOutputs_same ..).mono.into (State.evalTrips_same _)
  · exact (State.interlockBlock_same ..).mono
  · exact sameBut_refl s

section
variable {raise : WState → Cause → State → State} (hr : ∀ w c s, State.SameBut chainAreas s (raise w c s))
include hr

theorem State.fireWith_same (n : EntryNo) (s : State) : State.SameBut chainAreas s (s.fireWith raise n) := by
  unfold State.fireWith
  dsimp only
  split
  · exact (State.updEntry_same ..).mono.into (hr _ _ _)
  · exact (State.updEntry_same ..).mono.into (State.raiseCall_same ..)
  · exact (State.updEntry_same ..).mono.into (State.notify_same ..)
  · exact (State.updEntry_same ..).mono

theorem State.evalEntryWith_same (n : EntryNo) (s : State) : State.SameBut chainAreas s (s.evalEntryWith raise n) := by
  unfold State.evalEntryWith
  dsimp only
  split
  · exact sameBut_refl s
  · split
    · exact ((State.updEntry_same ..).mono.into (State.applyLevel_same ..)).into (State.fireWith_same hr ..)
    · exact (State.updEntry_same ..).mono.into (State.applyLevel_same ..)

theorem State.evalWith_same (watches : Condition → Bool) (s : State) :
    State.SameBut chainAreas s (s.evalWith raise watches) := by
  refine State.SameBut.forEach (fun n s => ?_) _ s
  split
  · exact State.evalEntryWith_same hr ..
  · exact sameBut_refl s

theorem State.settleMusterWith_same (before : MusterFigures) (s : State) :
    State.SameBut chainAreas s (s.settleMusterWith raise before) := by
  unfold State.settleMusterWith
  dsimp only
  split
  · exact ((State.with_roster_same ..).mono.into (State.notify_same ..)).into (State.evalWith_same hr ..)
  · split
    · exact (State.with_roster_same _ s).mono.into (State.notify_same ..)
    · exact (State.with_roster_same _ s).mono

theorem State.changeStateWith_same (target : WState) (cause : Cause) (s : State) :
    State.SameBut chainAreas s (s.changeStateWith raise target cause) := by
  unfold State.changeStateWith
  dsimp only
  refine State.SameBut.into ?_ (State.evalWith_same hr ..)
  refine State.SameBut.into ?_ (State.notify_same ..)
  refine State.SameBut.into ?_ (State.judgeRefuges_same _)
  split
  · refine State.SameBut.into ?_ (State.withdrawCut_same _)
    exact ((State.with_withdrawal_same _ s).mono.into (State.rosterTakesState_same ..)).into
      (State.settleMusterWith_same hr ..)
  · exact ((State.with_withdrawal_same _ s).mono.into (State.rosterTakesState_same ..)).into
      (State.settleMusterWith_same hr ..)

end

theorem State.raiseN_same (fuel : Nat) (target : WState) (cause : Cause) (s : State) :
    State.SameBut chainAreas s (s.raiseN fuel target cause) := by
  induction fuel generalizing target cause s with
  | zero => exact sameBut_refl s
  | succ n ih =>
    unfold State.raiseN
    split
    · exact State.changeStateWith_same ih ..
    · exact sameBut_refl s

theorem State.raise_same (target : WState) (cause : Cause) (s : State) :
    State.SameBut chainAreas s (s.raise target cause) := State.raiseN_same ..

theorem State.evalWhere_same (watches : Condition → Bool) (s : State) :
    State.SameBut chainAreas s (s.evalWhere watches) := State.evalWith_same State.raise_same ..

theorem State.settleMuster_same (before : MusterFigures) (s : State) :
    State.SameBut chainAreas s (s.settleMuster before) := State.settleMusterWith_same State.raise_same ..

theorem State.lower_same (target : WState) (p : PortId) (s : State) :
    State.SameBut chainAreas s (s.lower target p) := State.changeStateWith_same State.raise_same ..

theorem State.watchTrucks_same {f : State → State} (hf : ∀ s, State.SameBut (.road :: chainAreas) s (f s)) (s : State) :
    State.SameBut (.road :: chainAreas) s (s.watchTrucks f) := by
  unfold State.watchTrucks
  dsimp only
  split
  · exact hf s
  · exact (hf s).into (State.evalWhere_same ..)

theorem State.setDoor_same (n : RefugeNo) (d : Door) (s : State) : State.SameBut chainAreas s (s.setDoor n d) := by
  unfold State.setDoor
  dsimp only
  split
  · exact sameBut_refl s
  · split
    · exact ((State.updRefuge_same ..).mono.into (State.evalWhere_same ..)).into (State.raise_same ..)
    · exact (State.updRefuge_same ..).mono.into (State.evalWhere_same ..)

theorem State.panelReply_same (n : RefugeNo) (code : Nat) (a b : Bool) (s : State) :
    State.SameBut chainAreas s (s.panelReply n code a b) := by
  unfold State.panelReply
  dsimp only
  exact ((State.updRefuge_same ..).mono.into (State.judgeRefuges_same _)).into (State.setDoor_same ..)

theorem State.sight_same (t : Tag) (sub : ReaderSubtype) (z : Zone) (s : State) :
    State.SameBut chainAreas s (s.sight t sub z) := by
  unfold State.sight
  dsimp only
  exact (((State.sightRecord_same ..).mono.into (State.lingerAtOnce_same ..)).into (State.judgeRefuges_same _)).into
    (State.settleMuster_same ..)

end Sys2Proof.Machine
end

