-- ==== Sys2Proof/Laws/RowFrames.lean ====
section
/-!
SUPPORT. The frames of the Zone Alarm Controller, the Integrity Monitor, the Reading Pipeline, the Field Line
Controllers, the Client Port Controllers, a commit and the Supply Unit.
-/

-- The proofs are checked one after the other, within the memory that a check is given.
set_option Elab.async false

namespace Sys2Proof.Machine

/-! ### Zones -/

theorem State.raiseAlarm_same (z : Zone) (g : Grade) (s : State) :
    State.SameBut [.alarms, .notices] s (s.raiseAlarm z g) := by
  unfold State.raiseAlarm
  split
  · exact (State.with_alarms_same _ s).mono.into (State.notify_same ..)
  · split
    · exact (State.updAlarm_same ..).mono.into (State.notify_same ..)
    · exact sameBut_refl s

theorem State.fallAlarm_same (z : Zone) (g : Grade) (s : State) :
    State.SameBut [.alarms, .notices] s (s.fallAlarm z g) := by
  unfold State.fallAlarm
  split
  · exact sameBut_refl s
  · split
    · exact (State.dropAlarm_same ..).mono.into (State.notify_same ..)
    · exact (State.updAlarm_same ..).mono.into (State.notify_same ..)
    · exact sameBut_refl s

theorem State.alarmsTake_same (z : Zone) (old new : Level) (s : State) :
    State.SameBut [.alarms, .notices] s (s.alarmsTake z old new) := by
  unfold State.alarmsTake
  split
  · exact State.SameBut.forEach (fun g s => State.raiseAlarm_same z g s) _ s
  · exact State.SameBut.forEach (fun g s => State.fallAlarm_same z g s) _ s

theorem State.setLatch_same (z : Zone) (s : State) : State.SameBut latchAreas s (s.setLatch z) := by
  unfold State.setLatch
  exact (((State.updZone_same ..).mono.into (State.notify_same ..)).into (State.setGas_same ..)).into
    (State.evalTrips_same _)

theorem State.clearLatch_same (z : Zone) (s : State) : State.SameBut latchAreas s (s.clearLatch z) := by
  unfold State.clearLatch
  exact (((State.updZone_same ..).mono.into (State.notify_same ..)).into (State.clearGas_same ..)).into
    (State.evalTrips_same _)

theorem State.latchTakes_same (z : Zone) (new : Level) (s : State) : State.SameBut latchAreas s (s.latchTakes z new) := by
  unfold State.latchTakes
  split
  · exact State.setLatch_same ..
  · exact sameBut_refl s

theorem State.zoneRaises_same (z : Zone) (old new : Level) (s : State) :
    State.SameBut chainAreas s (s.zoneRaises z old new) := by
  unfold State.zoneRaises
  split
  · exact State.raise_same ..
  · split
    · exact State.raise_same ..
    · exact sameBut_refl s

theorem State.setZoneLevel_same (z : Zone) (new : Level) (s : State) :
    State.SameBut zoneAreas s (s.setZoneLevel z new) := by
  unfold State.setZoneLevel
  dsimp only
  refine State.SameBut.into ?_ (State.evalWhere_same ..)
  refine State.SameBut.into ?_ (State.zoneRaises_same ..)
  refine State.SameBut.into ?_ (State.judgeRefuges_same _)
  refine State.SameBut.into ?_ (State.latchTakes_same ..)
  refine State.SameBut.into ?_ (State.alarmsTake_same ..)
  exact (State.updZone_same ..).mono.into (State.notify_same ..)

theorem State.recomputeZone_same (z : Zone) (s : State) : State.SameBut zoneAreas s (s.recomputeZone z) := by
  unfold State.recomputeZone
  dsimp only
  split
  · exact sameBut_refl s
  · exact State.setZoneLevel_same ..

theorem State.recomputeZones_same (s : State) : State.SameBut zoneAreas s s.recomputeZones :=
  State.SameBut.forEach (fun z s => State.recomputeZone_same z s) _ s

theorem State.setForced_same (k : OutNo) (on : Bool) (s : State) :
    State.SameBut [.forced, .outputs, .notices] s (s.setForced k on) := by
  unfold State.setForced
  dsimp only
  exact ((State.setForcedFlag_same ..).mono.into (State.notify_same ..)).into (State.evalTrips_same _)

/-! ### The Integrity Monitor -/

theorem State.answerCheck_same (who : Option (PortId × Byte)) (res : Result) (s : State) :
    State.SameBut [.responses] s (s.answerCheck who res) := by
  unfold State.answerCheck
  split
  · exact State.respond_same ..
  · exact sameBut_refl s

theorem State.abandonPass_same (s : State) : State.SameBut [.monitor, .responses] s s.abandonPass := by
  unfold State.abandonPass
  split
  · exact (State.answerCheck_same ..).mono.into (State.setPass_same ..)
  · exact (State.setPass_same ..).mono

theorem State.abandonCheck_same (s : State) : State.SameBut [.monitor, .responses] s s.abandonCheck := by
  unfold State.abandonCheck
  split
  · exact State.abandonPass_same s
  · exact sameBut_refl s

theorem State.latchFault_same (result : BitVec 32) (s : State) :
    State.SameBut [.monitor, .outputs, .notices] s (s.latchFault result) := by
  unfold State.latchFault
  split
  · exact sameBut_refl s
  · exact ((State.with_monitor_same _ s).mono.into (State.notify_same ..)).into (State.evalTrips_same _)

theorem State.unlatchFault_same (s : State) : State.SameBut [.monitor, .outputs, .notices] s s.unlatchFault := by
  unfold State.unlatchFault
  exact ((State.with_monitor_same _ s).mono.into (State.notify_same ..)).into (State.evalTrips_same _)

/-- R156, R169: the end of a CHECK_CLEAR pass counts it, answers it, and then clears or keeps the latch. -/
theorem State.completePass_check {s : State} {who : Option (PortId × Byte)} (h : s.monitor.pass = some (.checkClear who)) :
    s.completePass = if s.settings.reference = some s.image.crc then (s.countPass.answerCheck who .done).unlatchFault
      else (s.countPass.answerCheck who (.refused .mismatch)).latchFault s.image.crc := by
  unfold State.completePass
  simp only [h, decide_eq_true_eq]

theorem State.completePass_same (s : State) :
    State.SameBut [.monitor, .outputs, .notices, .responses] s s.completePass := by
  unfold State.completePass
  dsimp only
  split
  · exact sameBut_refl s
  · split
    · exact (State.countPass_same s).mono
    · exact (State.countPass_same s).mono.into (State.latchFault_same ..)
  · split
    · exact ((State.countPass_same s).mono.into (State.answerCheck_same ..)).into (State.unlatchFault_same _)
    · exact ((State.countPass_same s).mono.into (State.answerCheck_same ..)).into (State.latchFault_same ..)

theorem State.restorePass_same (s : State) : State.SameBut [.monitor, .outputs, .notices] s s.restorePass := by
  unfold State.restorePass
  split
  · exact (State.countPass_same s).mono
  · exact (State.countPass_same s).mono.into (State.latchFault_same ..)

theorem State.takeImage_same (img : Image) (s : State) :
    State.SameBut [.settings, .monitor, .responses] s (s.takeImage img) := by
  unfold State.takeImage
  exact (State.with_settings_same _ s).mono.into (State.abandonPass_same _)

/-! ### Points -/

theorem State.handSample_same (pt : PointNo) (s : State) :
    State.SameBut (.points :: zoneAreas) s (s.handSample pt) := by
  unfold State.handSample
  dsimp only
  refine State.SameBut.into ?_ (State.evalWhere_same ..)
  refine State.SameBut.into ?_ (State.recomputeZone_same ..)
  refine State.SameBut.into ?_ (State.updPoint_same ..)
  exact (State.updPoint_same ..).mono.into (State.recomputeZone_same ..)

theorem State.takeSample_same (pt : PointNo) (temp : Option Int) (raw : Nat) (s : State) :
    State.SameBut (.points :: zoneAreas) s (s.takeSample pt temp raw) := by
  unfold State.takeSample
  dsimp only
  exact (State.updPoint_same ..).mono.into (State.handSample_same ..)

theorem State.unmapped_same (ln : LineNo) (s : State) : State.SameBut [.lines] s (s.unmapped ln) :=
  State.updLine_same ..

theorem State.channelReport_same (st : StationNo) (temp : Option Int) (c : ChannelReport) (s : State) :
    State.SameBut (.lines :: .points :: zoneAreas) s (s.channelReport st temp c) := by
  unfold State.channelReport
  dsimp only
  split
  · exact (State.unmapped_same ..).mono
  · split
    · exact (State.updPoint_same ..).mono
    · split
      · exact (State.updPoint_same ..).mono.into (State.updPoint_same ..)
      · exact (State.updPoint_same ..).mono.into (State.takeSample_same ..)

theorem State.pointsFollow_same (st : StationNo) (old new : StationState) (s : State) :
    State.SameBut [.points] s (s.pointsFollow st old new) :=
  State.SameBut.forEach (fun pt s => State.updPoint_same pt _ s) _ s

theorem State.recomputeWhen_same (w : ZonesWhen) (s : State) : State.SameBut zoneAreas s (s.recomputeWhen w) := by
  unfold State.recomputeWhen
  split
  · exact State.recomputeZones_same s
  · exact sameBut_refl s

theorem State.setStaleTrip_same (pt : PointNo) (s : State) :
    State.SameBut (.points :: zoneAreas) s (s.setStaleTrip pt) := by
  unfold State.setStaleTrip
  exact (State.updPoint_same ..).mono.into (State.recomputeZone_same ..)

theorem State.endCal_same (ln : LineNo) (c : Calibration) (s : State) :
    State.SameBut [.lines, .points] s (s.endCal ln c) := by
  unfold State.endCal
  exact (State.updLine_same ..).mono.into (State.updPoint_same ..)

theorem State.failCal_same (ln : LineNo) (cause : CalCause) (s : State) :
    State.SameBut [.lines, .points, .notices] s (s.failCal ln cause) := by
  unfold State.failCal
  split
  · exact (State.endCal_same ..).mono.into (State.notify_same ..)
  · exact sameBut_refl s

theorem State.failCalOf_same (st : StationNo) (cause : CalCause) (s : State) :
    State.SameBut [.lines, .points, .notices] s (s.failCalOf st cause) := by
  unfold State.failCalOf
  split
  · split
    · exact State.failCal_same ..
    · exact sameBut_refl s
  · exact sameBut_refl s

theorem State.calResult_same (st : StationNo) (count : Nat) (s : State) :
    State.SameBut [.lines, .points, .settings, .monitor, .responses, .notices] s (s.calResult st count) := by
  unfold State.calResult
  dsimp only
  split
  · split
    · exact (State.unmapped_same ..).mono
    · split
      · exact ((State.endCal_same ..).mono.into (State.takeImage_same ..)).into (State.notify_same ..)
      · exact (State.failCal_same ..).mono
  · exact (State.unmapped_same ..).mono

/-! ### Stations and lines -/

theorem State.updStation_same (st : StationNo) (f : StationRec → StationRec) (s : State) :
    State.SameBut [.stations, .lamps] s (s.updStation st f) := State.with_stations_same ..

theorem State.handStation_same (w : ZonesWhen) (st : StationNo) (old new : StationState) (s : State) :
    State.SameBut (.lines :: .points :: zoneAreas) s (s.handStation w st old new) := by
  unfold State.handStation
  dsimp only
  split
  · exact sameBut_refl s
  · have h1 : State.SameBut (.lines :: .points :: zoneAreas) s ((s.pointsFollow st old new).recomputeWhen w) :=
      (State.pointsFollow_same ..).mono.into (State.recomputeWhen_same ..)
    generalize (s.pointsFollow st old new).recomputeWhen w = u at h1 ⊢
    have h2 : State.SameBut (.lines :: .points :: zoneAreas) s
        (if new = .lost then u.failCalOf st .stationLost
          else if new = .skipped then u.failCalOf st .stationSkipped else u) := by
      split
      · exact h1.into (State.failCalOf_same ..)
      · split
        · exact h1.into (State.failCalOf_same ..)
        · exact h1
    generalize (if new = .lost then u.failCalOf st .stationLost
          else if new = .skipped then u.failCalOf st .stationSkipped else u) = v at h2 ⊢
    have h3 : State.SameBut (.lines :: .points :: zoneAreas) s
        (if old = .online then
          match v.refugeOf st with
          | some n => v.setDoor n .unknown
          | none => v
        else v) := by
      split
      · split
        · exact h2.into (State.setDoor_same ..)
        · exact h2
      · exact h2
    split
    · exact h3
    · exact h3.into (State.evalWhere_same ..)

theorem State.stationNotice_same (st : StationNo) (old new : StationState) (before after : Nat) (s : State) :
    State.SameBut [.notices] s (s.stationNotice st old new before after) := by
  unfold State.stationNotice
  repeat' split
  all_goals first
    | exact State.notify_same ..
    | exact sameBut_refl s

theorem State.moveStation_same (w : ZonesWhen) (st : StationNo) (new : StationState) (f : StationRec → StationRec)
    (s : State) : State.SameBut fieldAreas s (s.moveStation w st new f) := by
  unfold State.moveStation
  split
  · exact sameBut_refl s
  · exact ((State.updStation_same ..).mono.into (State.stationNotice_same ..)).into (State.handStation_same ..)

theorem State.miss_same (st : StationNo) (s : State) : State.SameBut fieldAreas s (s.miss st) := by
  unfold State.miss
  split
  · exact sameBut_refl s
  · exact State.moveStation_same ..

theorem State.badReply_same (st : StationNo) (s : State) : State.SameBut fieldAreas s (s.badReply st) := by
  unfold State.badReply
  exact (State.updStation_same ..).mono.into (State.miss_same ..)

theorem State.heardFrom_same (st : StationNo) (s : State) : State.SameBut fieldAreas s (s.heardFrom st) :=
  State.moveStation_same ..

theorem State.deliverLamps_same (st : StationNo) (items : List LampItem) (s : State) :
    State.SameBut [.lamps] s (s.deliverLamps st items) := by
  refine State.with_lamps_same _ s fun j => ?_
  rw [upd_get]
  split
  · cases s.stations[j.1] <;> rfl
  · rfl

theorem State.deliverDemand_same (d : CarriedDemand) (s : State) :
    State.SameBut [.delivery] s (s.deliverDemand d) := by
  unfold State.deliverDemand
  dsimp only
  split
  · split <;> exact State.with_delivery_same ..
  · exact sameBut_refl s

theorem State.deliver_same (p : Poll) (s : State) : State.SameBut [.lamps, .delivery] s (s.deliver p) := by
  unfold State.deliver
  exact (State.deliverLamps_same ..).mono.into (State.SameBut.forEach (fun d s => State.deliverDemand_same d s) _ _)

theorem State.takeSighting_same (st : StationNo) (g : Sighting) (s : State) :
    State.SameBut chainAreas s (s.takeSighting st g) := by
  unfold State.takeSighting
  split
  · exact sameBut_refl s
  · dsimp only
    split
    · exact (State.sight_same ..).into (State.takePress_same ..)
    · exact State.sight_same ..

theorem State.takeContent_same (st : StationNo) (b : ReplyBody) (s : State) :
    State.SameBut contentAreas s (s.takeContent st b) := by
  unfold State.takeContent
  split
  · dsimp only
    split
    · exact (State.SameBut.forEach (fun c s => State.channelReport_same st _ c s) _ s).mono.into (State.calResult_same ..)
    · exact (State.SameBut.forEach (fun c s => State.channelReport_same st _ c s) _ s).mono
  · exact (State.SameBut.forEach (fun g s => State.takeSighting_same st g s) _ s).mono
  · exact (State.SameBut.forEach
      (fun r s => State.watchTrucks_same (fun s => (State.truckReport_same st r s).mono) s) _ s).mono
  · split
    · exact (State.panelReply_same ..).mono
    · exact sameBut_refl s

theorem State.skip_same (w : ZonesWhen) (st : StationNo) (s : State) : State.SameBut fieldAreas s (s.skip w st) :=
  State.moveStation_same ..

theorem State.setDue_same (st : StationNo) (due : Bool) (s : State) : State.SameBut [.lines] s (s.setDue st due) := by
  unfold State.setDue
  split
  · exact State.updLine_same ..
  · exact sameBut_refl s

theorem State.judgeSkip_same (w : ZonesWhen) (st : StationNo) (s : State) :
    State.SameBut fieldAreas s (s.judgeSkip w st) := by
  unfold State.judgeSkip
  dsimp only
  repeat' split
  all_goals first
    | exact sameBut_refl s
    | exact (State.setDue_same ..).mono
    | exact State.skip_same ..
    | exact (State.setDue_same ..).mono.into (State.moveStation_same ..)

theorem State.judgeSkips_same (w : ZonesWhen) (s : State) : State.SameBut fieldAreas s (s.judgeSkips w) := by
  unfold State.judgeSkips
  split
  · exact State.SameBut.forEach (fun st s => State.judgeSkip_same w st s) _ s
  · exact sameBut_refl s

theorem State.snapListed_same (st : StationNo) (r : StationRec) (listed : Bool) (s : State) :
    State.SameBut fieldAreas s (s.snapListed st r listed) := by
  unfold State.snapListed
  exact State.moveStation_same ..

theorem State.snapUnlisted_same (st : StationNo) (r : StationRec) (s : State) :
    State.SameBut fieldAreas s (s.snapUnlisted st r) := by
  unfold State.snapUnlisted
  exact State.moveStation_same ..

theorem State.dropStation_same (st : StationNo) (r : StationRec) (s : State) :
    State.SameBut fieldAreas s (s.dropStation st r) := by
  unfold State.dropStation
  dsimp only
  exact ((State.with_stations_same _ s).mono.into (State.stationNotice_same ..)).into (State.handStation_same ..)

theorem State.snapStation_same (old new : List PollEntry) (st : StationNo) (s : State) :
    State.SameBut fieldAreas s (s.snapStation old new st) := by
  unfold State.snapStation
  repeat' split
  all_goals first
    | exact sameBut_refl s
    | exact State.dropStation_same ..
    | exact State.snapListed_same ..
    | exact State.snapUnlisted_same ..

theorem State.snapshot_same (ln : LineNo) (s : State) : State.SameBut fieldAreas s (s.snapshot ln) := by
  unfold State.snapshot
  dsimp only
  exact (State.updLine_same ..).mono.into (State.SameBut.forEach (fun st s => State.snapStation_same _ _ st s) _ _)

theorem State.pollNext_same (ln : LineNo) (s : State) : State.SameBut [.lines] s (s.pollNext ln) := by
  unfold State.pollNext
  dsimp only
  split <;> exact State.updLine_same ..

theorem State.beginPass_same (ln : LineNo) (s : State) : State.SameBut fieldAreas s (s.beginPass ln) := by
  unfold State.beginPass
  exact (State.snapshot_same ..).into (State.pollNext_same ..)

/-- R2, R3: a line that moves on walks its list, and from a pass that so ends under a gap of 0 it begins the next. -/
theorem State.moveOn_cases (ln : LineNo) (s : State) :
    ((((s.pollNext ln).line ln).state = .gap ∧ (s.pollNext ln).gap = 0) ∧ s.moveOn ln = (s.pollNext ln).beginPass ln) ∨
      (¬ (((s.pollNext ln).line ln).state = .gap ∧ (s.pollNext ln).gap = 0) ∧ s.moveOn ln = s.pollNext ln) := by
  unfold State.moveOn
  dsimp only
  split
  · next h => exact .inl ⟨h, rfl⟩
  · next h => exact .inr ⟨h, rfl⟩

theorem State.moveOn_same (ln : LineNo) (s : State) : State.SameBut fieldAreas s (s.moveOn ln) := by
  unfold State.moveOn
  dsimp only
  split
  · exact (State.pollNext_same ..).mono.into (State.beginPass_same ..)
  · exact (State.pollNext_same ..).mono

theorem State.stopLine_same (ln : LineNo) (s : State) : State.SameBut [.lines] s (s.stopLine ln) :=
  State.updLine_same ..

theorem State.endPoll_same (ln : LineNo) (s : State) : State.SameBut fieldAreas s (s.endPoll ln) := by
  unfold State.endPoll
  split
  · exact sameBut_refl s
  · next p _ =>
    dsimp only
    have h1 : State.SameBut fieldAreas s (s.updLine ln fun l => { l with poll := none, cursor := l.cursor + 1 }) :=
      (State.updLine_same ..).mono
    generalize (s.updLine ln fun l => { l with poll := none, cursor := l.cursor + 1 }) = u at h1 ⊢
    have h2 : State.SameBut fieldAreas s (if p.dueSkip then u.skip .atOnce p.station else u) := by
      split
      · exact h1.into (State.skip_same ..)
      · exact h1
    generalize (if p.dueSkip then u.skip .atOnce p.station else u) = v at h2 ⊢
    split
    · exact h2.into (State.moveOn_same ..)
    · exact h2.into (State.stopLine_same ..)

theorem State.takeReply_same (p : Poll) (bytes : List Byte) (s : State) :
    State.SameBut replyAreas s (s.takeReply p bytes) := by
  unfold State.takeReply
  split
  · exact ((State.heardFrom_same ..).mono.into (State.deliver_same ..)).into (State.takeContent_same ..)
  · exact (State.badReply_same ..).mono

/-! ### Client ports -/

theorem State.portUp_same (p : PortId) (s : State) :
    State.SameBut [.links, .requests, .notices, .calls] s (s.portUp p) := by
  unfold State.portUp
  dsimp only
  refine State.SameBut.into ?_ (State.offerPortsChanged_same ..)
  refine State.SameBut.into ?_ (State.notifyOn_same ..)
  have h : State.SameBut [.links, .requests, .notices, .calls] s (s.updPort p fun r =>
      { r with state := .up, supervised := s.tick, requests := [], notices := [], nextSeq := 0, restartDue := false }) :=
    State.updPort_same p _ s (.inl (by decide)) (.inl (by decide)) (.inl (by decide)) (.inr rfl)
  split
  · exact h.into (State.notifyOn_same ..)
  · exact h

theorem State.cancelEditOf_same (p : PortId) (s : State) : State.SameBut [.settings] s (s.cancelEditOf p) := by
  unfold State.cancelEditOf
  split
  · split
    · exact State.with_settings_same _ s
    · exact sameBut_refl s
  · exact sameBut_refl s

theorem State.orphanCheck_same (p : PortId) (s : State) : State.SameBut [.monitor] s (s.orphanCheck p) := by
  unfold State.orphanCheck
  split
  · split
    · exact State.setPass_same ..
    · exact sameBut_refl s
  · exact sameBut_refl s

theorem State.portDown_same (p : PortId) (s : State) : State.SameBut downAreas s (s.portDown p) := by
  unfold State.portDown
  dsimp only
  have h : State.SameBut downAreas s
      (s.updPort p fun r => { r with state := .down, requests := [], notices := [], held := [] }) :=
    State.updPort_same p _ s (.inl (by decide)) (.inl (by decide)) (.inl (by decide)) (.inl (by decide))
  generalize (s.updPort p fun r => { r with state := .down, requests := [], notices := [], held := [] }) = u at h ⊢
  have h2 := (((h.into (State.notify_same (.port p false) u)).into (State.portCallsReleased_same p s.offerPorts _)).into
    (State.cancelEditOf_same p _)).into (State.orphanCheck_same p _)
  split
  · exact h2.into (State.raise_same ..)
  · exact h2

theorem PortRec.join_keeps (f : Frame) (r : PortRec) :
    (r.join f).noticing = r.noticing ∧ (r.join f).answering = r.answering := by
  unfold PortRec.join
  split <;> exact ⟨rfl, rfl⟩

theorem State.validFrame_same (p : PortId) (f : Frame) (s : State) : State.SameBut frameAreas s (s.validFrame p f) := by
  have hv : State.SameBut frameAreas s (s.updPort p fun r => { r with valid := wrapInc 65536 r.valid }) :=
    State.updPort_same p _ s (.inl (by decide)) (.inr rfl) (.inr rfl) (.inr rfl)
  have hj : ∀ (g : PortRec → PortRec) (s : State), (g (s.port p)).noticing = (s.port p).noticing →
      (g (s.port p)).answering = (s.port p).answering →
      State.SameBut frameAreas s (s.updPort p fun r => (g r).join f) := by
    intro g s h1 h2
    exact State.updPort_same p _ s (.inl (by decide)) (.inl (by decide))
      (.inr ((PortRec.join_keeps ..).1.trans h1)) (.inr ((PortRec.join_keeps ..).2.trans h2))
  unfold State.validFrame
  dsimp only
  generalize (s.updPort p fun r => { r with valid := wrapInc 65536 r.valid }) = u at hv ⊢
  split
  · split
    · exact hv.into (hj id u rfl rfl)
    · exact hv
  · split
    · exact hv.into (hj (fun r => { r with supervised := u.tick }) u rfl rfl)
    · exact (hv.into (State.portUp_same p u)).into
        (hj (fun r => { r with supervised := (u.portUp p).tick }) _ rfl rfl)

theorem State.scan_same (fuel : Nat) (p : PortId) (s : State) : State.SameBut frameAreas s (s.scan fuel p) := by
  induction fuel generalizing s with
  | zero => exact sameBut_refl s
  | succ n ih =>
    unfold State.scan
    dsimp only
    split
    · exact (State.setAssembly_same ..).mono
    · exact (((State.setAssembly_same ..).mono.into (State.setAssembly_same ..)).into (State.validFrame_same ..)).into (ih _)
    · exact ((State.setAssembly_same ..).mono.into (State.badFrame_same ..)).into (ih _)
    · exact (State.setAssembly_same ..).mono

theorem State.receive_same (p : PortId) (bytes : List Byte) (s : State) :
    State.SameBut frameAreas s (s.receive p bytes) := by
  unfold State.receive
  exact (State.setAssembly_same ..).mono.into (State.scan_same ..)

theorem State.gapOut_same (fuel : Nat) (p : PortId) (s : State) : State.SameBut frameAreas s (s.gapOut fuel p) := by
  induction fuel generalizing s with
  | zero => exact sameBut_refl s
  | succ n ih =>
    unfold State.gapOut
    dsimp only
    split
    · exact sameBut_refl s
    · exact ((State.badFrame_same ..).mono.into (State.scan_same ..)).into (ih _)

/-! ### A commit -/

theorem State.takeMissLimit_same (st : StationNo) (s : State) : State.SameBut fieldAreas s (s.takeMissLimit st) := by
  unfold State.takeMissLimit
  dsimp only
  repeat' split
  all_goals first
    | exact sameBut_refl s
    | exact (State.updStation_same ..).mono
    | exact State.moveStation_same ..

theorem State.commitStations_same (s : State) : State.SameBut fieldAreas s s.commitStations := by
  unfold State.commitStations
  dsimp only
  exact ((State.with_stations_same _ s).mono.into (State.judgeSkips_same ..)).into
    (State.SameBut.forEach (fun st s => State.takeMissLimit_same st s) _ _)

theorem State.commitPoint_same (old : PointCfg) (pt : PointNo) (s : State) :
    State.SameBut (.points :: chainAreas) s (s.commitPoint old pt) := by
  unfold State.commitPoint
  dsimp only
  split
  · split
    · exact sameBut_refl s
    · exact (State.updPoint_same ..).mono.into (State.evalWhere_same ..)
  · split
    · exact (State.updPoint_same ..).mono
    · split
      · exact (State.updPoint_same ..).mono
      · exact sameBut_refl s

theorem State.commitLevels_same (old : Image) (pt : PointNo) (s : State) :
    State.SameBut [.points] s (s.commitLevels old pt) := by
  unfold State.commitLevels
  dsimp only
  split
  · exact (State.updPoint_same ..).into (State.updPoint_same ..)
  · exact State.updPoint_same ..

theorem State.commitPoints_same (old : Image) (s : State) :
    State.SameBut (.points :: zoneAreas) s (s.commitPoints old) := by
  unfold State.commitPoints
  dsimp only
  exact ((State.SameBut.forEach (fun pt s => State.commitPoint_same _ pt s) _ s).mono.into
    (State.SameBut.forEach (fun pt s => State.commitLevels_same old pt s) _ _)).into (State.recomputeZones_same _)

theorem State.freshGas_same (s : State) : State.SameBut [.segments] s s.freshGas := State.with_segments_same ..

theorem State.commitTrucks_same (old : Image) (s : State) :
    State.SameBut (.road :: chainAreas) s (s.commitTrucks old) := by
  unfold State.commitTrucks
  dsimp only
  split
  · exact (State.with_trucks_same _ s).mono
  · refine (State.with_trucks_same _ s).mono.into (l' := .road :: chainAreas)
      (State.SameBut.forEach (fun t s => ?_) _ _)
    split
    · exact State.watchTrucks_same (fun s => (State.loseTruck_same t s).mono) s
    · exact sameBut_refl s

theorem State.commitRefuges_same (old : Image) (s : State) : State.SameBut chainAreas s (s.commitRefuges old) := by
  unfold State.commitRefuges
  refine State.SameBut.into (State.SameBut.forEach (fun n s => ?_) _ s) (State.judgeRefuges_same _)
  unfold State.commitRefuge
  split
  · exact sameBut_refl s
  · exact ((State.updRefuge_same ..).mono.into (State.judgeRefuges_same _)).into (State.setDoor_same ..)

theorem State.commitSupervision_same (old : Image) (s : State) :
    State.SameBut downAreas s (s.commitSupervision old) := by
  unfold State.commitSupervision
  split
  · exact sameBut_refl s
  · refine State.SameBut.forEach (fun p s => ?_) _ s
    split
    · exact State.portDown_same ..
    · exact sameBut_refl s

theorem State.putEntries_same (marked : EntryNo → Bool) (s : State) :
    State.SameBut [.entries, .tripHolders, .signalHolders, .segments, .trucks, .delivery, .outputs, .notices] s
      (s.putEntries marked) := by
  have h : ∀ (e : Vector EntryRt 24) (v : Vector SignalOut 8) (w : Vector TripOut 8),
      (∀ k : OutNo, v[k.1].on = s.signals[k.1].on) →
      (∀ k : OutNo, w[k.1].isOpen = s.trips[k.1].isOpen ∧ w[k.1].faultHold = s.trips[k.1].faultHold ∧
        w[k.1].forced = s.trips[k.1].forced) →
      State.SameBut [.entries, .tripHolders, .signalHolders, .segments, .trucks, .delivery, .outputs, .notices] s
        { s with entries := e, signals := v, trips := w } := by
    intro e v w hv hw
    refine ⟨fun x m => ?_⟩
    cases x
    case entries => exact absurd (by decide) m
    case tripHolders => exact absurd (by decide) m
    case signalHolders => exact absurd (by decide) m
    case outputs => exact absurd (by decide) m
    case forced => exact fun k => (hw k).2.2
    all_goals first | rfl | exact fun _ => rfl
  unfold State.putEntries
  dsimp only
  exact ((h _ _ _ (fun k => by rw [updAll_get]) (fun k => by rw [updAll_get]; exact ⟨rfl, rfl, rfl⟩)).into
    (State.addReasons_same ..)).into (State.evalTrips_same _)

theorem State.markEntries_same (old : Image) (s : State) : State.SameBut [.entries] s (s.markEntries old) :=
  State.with_entries_same ..

theorem State.rebuild_same (old : Image) (s : State) : State.SameBut chainAreas s (s.rebuild old) := by
  unfold State.rebuild
  dsimp only
  exact (State.putEntries_same ..).mono.into
    (State.SameBut.forEach (fun n s => State.fireWith_same State.raise_same n s) _ _)

theorem State.enterRunning_same (s : State) : State.SameBut [.supply, .monitor] s s.enterRunning := by
  unfold State.enterRunning
  refine ⟨fun a h => ?_⟩
  cases a
  case supply => exact absurd (by decide) h
  case monitor => exact absurd (by decide) h
  all_goals first | rfl | exact fun _ => rfl | exact ⟨fun _ => ⟨rfl, rfl, rfl⟩, rfl⟩

theorem State.commitRoster_same (s : State) : State.SameBut chainAreas s s.commitRoster := by
  unfold State.commitRoster
  exact (State.ageRoster_same s).mono.into (State.settleMuster_same ..)

theorem State.handImage_same (old : Image) (s : State) : State.SameBut commitAreas s (s.handImage old) := by
  unfold State.handImage
  dsimp only
  refine State.SameBut.into ?_ (State.rebuild_same ..)
  refine State.SameBut.into ?_ (State.commitSupervision_same ..)
  refine State.SameBut.into ?_ (State.commitRefuges_same ..)
  refine State.SameBut.into ?_ (State.commitTrucks_same ..)
  refine State.SameBut.into ?_ (State.escalateAll_same _)
  refine State.SameBut.into ?_ (State.commitRoster_same _)
  refine State.SameBut.into ?_ (State.commitPoints_same ..)
  refine State.SameBut.into ?_ (State.freshGas_same _)
  exact (State.markEntries_same ..).mono.into (State.commitStations_same _)

theorem State.commitImage_same (p : PortId) (shadow : Image) (s : State) :
    State.SameBut (.supply :: commitAreas) s (s.commitImage p shadow) := by
  unfold State.commitImage
  dsimp only
  have h1 : State.SameBut (.supply :: commitAreas) s
      (State.takeImage shadow { s with settings := { s.settings with edit := none } }) :=
    (State.with_settings_same _ s).mono.into (State.takeImage_same ..)
  generalize State.takeImage shadow { s with settings := { s.settings with edit := none } } = u at h1 ⊢
  have h2 : State.SameBut (.supply :: commitAreas) s
      (if decide (s.supply.phase = .unconfigured) = true then u.enterRunning else u) := by
    split
    · exact h1.into (State.enterRunning_same u)
    · exact h1
  generalize (if decide (s.supply.phase = .unconfigured) = true then u.enterRunning else u) = v at h2 ⊢
  have h3 := h2.into (State.notify_same (.settingsCommitted p shadow.crc) v)
  generalize v.notify (.settingsCommitted p shadow.crc) = w at h3 ⊢
  have h4 := h3.into (State.handImage_same s.image w)
  split
  · exact (h4.into (State.beginPass_same ..)).into (State.beginPass_same ..)
  · exact h4

/-! ### The Supply Unit -/

theorem State.setSupply_same (new : SupplyState) (s : State) :
    State.SameBut [.supply, .notices] s (s.setSupply new) := by
  unfold State.setSupply
  exact (State.with_supply_same _ s).mono.into (State.notify_same ..)

theorem State.stopIfGap_same (ln : LineNo) (s : State) : State.SameBut [.lines] s (s.stopIfGap ln) := by
  unfold State.stopIfGap
  split
  · exact State.stopLine_same ..
  · exact sameBut_refl s

theorem State.beginSave_same (s : State) : State.SameBut [.supply] s s.beginSave := by
  unfold State.beginSave
  split
  · exact State.setSave_same ..
  · exact State.with_supply_same _ s

theorem State.enterHoldup_same (s : State) :
    State.SameBut [.lines, .points, .outputs, .notices, .responses, .settings, .monitor, .supply] s s.enterHoldup := by
  unfold State.enterHoldup
  dsimp only
  refine State.SameBut.into ?_ (State.beginSave_same _)
  refine State.SameBut.into ?_ (State.evalTrips_same _)
  refine State.SameBut.into ?_ (State.abandonCheck_same _)
  refine State.SameBut.into ?_ (State.with_settings_same _ _)
  refine State.SameBut.into ?_ (State.failCal_same ..)
  refine State.SameBut.into ?_ (State.failCal_same ..)
  refine State.SameBut.into ?_ (State.stopIfGap_same ..)
  exact (State.setSupply_same ..).mono.into (State.stopIfGap_same ..)

theorem State.changeSupply_same (new : SupplyState) (s : State) :
    State.SameBut (.supply :: fieldAreas) s (s.changeSupply new) := by
  unfold State.changeSupply
  exact ((State.setSupply_same ..).mono.into (State.judgeSkips_same ..)).into (State.recomputeZones_same _)

end Sys2Proof.Machine
end

