-- ==== Sys2Proof/Laws/Growth.lean ====
section
/-!
SUPPORT. What is added is kept: an operation appends notices to the queues of the ports (R159) and responses to their logs
(R156), and takes none away, so that a notice or a response once made is still there when the command has ended.
-/

-- The proofs are checked one after the other, within the memory that a check is given.
set_option Elab.async false

namespace Sys2Proof.Machine

/-- Every port's notices and responses of `s` stand, in their order, at the front of those of `t`. -/
structure State.Extends (s t : State) : Prop where
  notices : ∀ p, (s.port p).notices <+: (t.port p).notices
  responses : ∀ p, (s.port p).responses <+: (t.port p).responses

theorem State.Extends.rfl {s : State} : s.Extends s := ⟨fun _ => List.prefix_rfl, fun _ => List.prefix_rfl⟩

theorem State.Extends.trans {s t u : State} (h : s.Extends t) (k : t.Extends u) : s.Extends u :=
  ⟨fun p => (h.notices p).trans (k.notices p), fun p => (h.responses p).trans (k.responses p)⟩

/-- An operation that touches neither area keeps both. -/
theorem State.SameBut.extends {l : List Area} {s t : State} (h : State.SameBut l s t)
    (hn : .notices ∉ l := by decide) (hr : .responses ∉ l := by decide) : s.Extends t := by
  refine ⟨fun p => ?_, fun p => ?_⟩
  · exact ⟨[], by rw [List.append_nil]; exact (congrArg Prod.fst (h.same _ hn p)).symm⟩
  · exact ⟨[], by rw [List.append_nil]; exact (congrArg Prod.fst (h.same _ hr p)).symm⟩

theorem State.Extends.forEach {α : Type} {f : α → State → State} (hf : ∀ (x : α) (s : State), s.Extends (f x s)) :
    ∀ (xs : List α) (s : State), s.Extends (Machine.forEach xs f s)
  | [], _ => .rfl
  | x :: xs, s => (hf x s).trans (State.Extends.forEach hf xs (f x s))

/-! ### Notices and responses -/

theorem PortRec.push_extends (n : Notice) (r : PortRec) : r.notices <+: (r.push n).notices := by
  unfold PortRec.push
  split
  · split
    · exact List.prefix_append ..
    · exact List.prefix_rfl
  · exact List.prefix_rfl

/-- A change of one port's record that adds to its notices and its responses. -/
theorem State.updPort_extends (p : PortId) (f : PortRec → PortRec) (s : State)
    (hn : (s.port p).notices <+: (f (s.port p)).notices) (hr : (s.port p).responses <+: (f (s.port p)).responses) :
    s.Extends (s.updPort p f) := by
  refine ⟨fun q => ?_, fun q => ?_⟩ <;> rw [updPort_port] <;> split
  · next e => subst e; exact hn
  · exact List.prefix_rfl
  · next e => subst e; exact hr
  · exact List.prefix_rfl

theorem State.notifyOn_extends (ps : List PortId) (n : Notice) (s : State) : s.Extends (s.notifyOn ps n) :=
  State.Extends.forEach (fun p s => State.updPort_extends p _ s (PortRec.push_extends ..)
    (⟨[], (List.append_nil _).trans (congrArg Prod.fst (PortRec.push_keeps n (s.port p)).2.2).symm⟩)) ps s

theorem State.notify_extends (n : Notice) (s : State) : s.Extends (s.notify n) := State.notifyOn_extends ..

/-- R159: a notice sent to every UP port and followed by operations that only add stands in every queue that took it. -/
theorem State.sends_of_notify {n : Notice} {s t : State} (h : (s.notify n).Extends t) (q : PortId) : s.Sends t q n := by
  have k := h.notices q
  rw [State.notify_port] at k
  exact k

theorem State.respond_extends (p : PortId) (r : Response) (s : State) : s.Extends (s.respond p r) :=
  State.updPort_extends p _ s
    (⟨[], (List.append_nil _).trans (congrArg Prod.fst (PortRec.make_keeps r (s.port p)).2.2.1).symm⟩)
    ((PortRec.make_keeps r (s.port p)).2.2.2 ▸ List.prefix_append ..)

theorem State.answer_extends (p : PortId) (f : Frame) (res : Result) (d : Detail) (s : State) :
    s.Extends (s.answer p f res d) := State.respond_extends ..

/-- R156: an answer followed by operations that only add stands in the port's log. -/
theorem State.answers_of_answer {p : PortId} {f : Frame} {res : Result} {d : Detail} {s t : State}
    (h : (s.answer p f res d).Extends t) : s.Answers t p f res d := by
  have k := h.responses p
  unfold State.answer State.respond at k
  rw [updPort_port, if_pos (Eq.refl p), (PortRec.make_keeps ..).2.2.2] at k
  exact k

/-! ### Outputs, and the end of a command -/

theorem State.evalTrip_extends (k : OutNo) (s : State) : s.Extends (s.evalTrip k) := by
  have h : ∀ (o f : Bool), s.Extends (s.updTrip k fun x => { x with isOpen := o, faultHold := f }) := fun o f =>
    (State.updTrip_same k _ (by intro; exact Eq.refl _) (by intro; exact Eq.refl _) s).extends
  unfold State.evalTrip
  dsimp only
  split
  · exact h _ _
  · exact (h _ _).trans (State.notify_extends ..)

theorem State.evalTrips_extends (s : State) : s.Extends s.evalTrips :=
  State.Extends.forEach (fun k s => State.evalTrip_extends k s) _ s

theorem State.settle_extends (s : State) : s.Extends s.settle :=
  ((State.evalTrips_extends s).trans (State.judgeSignals_same _).extends).trans (State.judgeFault_same _).extends

theorem State.answerOthers_extends (fuel : Nat) (p : PortId) (s : State) : s.Extends (s.answerOthers fuel p) := by
  induction fuel generalizing s with
  | zero => exact .rfl
  | succ n ih =>
    unfold State.answerOthers
    split
    · split
      · exact ((State.popRequest_same p s).extends.trans (State.answer_extends ..)).trans (ih _)
      · exact .rfl
    · exact .rfl

theorem State.finish_extends (s : State) : s.Extends s.finish :=
  (State.settle_extends s).trans (State.Extends.forEach (fun p s => State.answerOthers_extends 4 p s) _ _)

/-! ### Haulage -/

theorem State.finishTruck_extends (old : TruckRec) (t : TruckNo) (s : State) : s.Extends (s.finishTruck old t) := by
  have h : s.Extends (if s.trucks[t.1].view = old.view then s else s.joinDelivery t) := by
    split
    · exact .rfl
    · exact (State.joinDelivery_same t s).extends
  unfold State.finishTruck
  dsimp only
  split
  · exact h.trans (State.notify_extends ..)
  · exact h

theorem State.withdrawCut_extends (s : State) : s.Extends s.withdrawCut := by
  refine State.Extends.forEach (fun t s => ?_) _ s
  dsimp only
  split
  · split
    · exact ((State.cutTo_same ..).extends.trans (State.recompute_same ..).extends).trans (State.finishTruck_extends ..)
    · exact .rfl
  · exact .rfl

theorem State.blockTruck_extends (newly gassed : SegNo → Bool) (t : TruckNo) (s : State) :
    s.Extends (s.blockTruck newly gassed t) := by
  unfold State.blockTruck
  dsimp only
  split
  · exact .rfl
  · next run _ =>
    generalize (if (runSegs _ run).any newly then _ else run.last) = last
    have h : s.Extends (if last = run.last then s else s.cutTo t last) := by
      split
      · exact .rfl
      · exact (State.cutTo_same ..).extends
    generalize (if last = run.last then s else s.cutTo t last) = u at h ⊢
    split
    · exact (h.trans (State.recompute_same ..).extends).trans (State.finishTruck_extends ..)
    · exact h

theorem State.addReasons_extends (f : SegNo → Segment → Segment) (gassed : SegNo → Bool) (s : State) :
    s.Extends (s.addReasons f gassed) := by
  unfold State.addReasons
  dsimp only
  exact (State.with_segments_same ..).extends.trans
    (State.Extends.forEach (fun t s => State.blockTruck_extends _ _ t s) _ _)

theorem State.clearGas_extends (z : Zone) (s : State) : s.Extends (s.clearGas z) := by
  unfold State.clearGas
  dsimp only
  refine (State.with_segments_same ..).extends.trans (State.Extends.forEach (fun t s => ?_) _ _)
  split
  · split
    · exact (State.updTruck_same ..).extends.trans (State.finishTruck_extends ..)
    · exact .rfl
  · exact .rfl

theorem State.intrude_extends (t : TruckNo) (seg : SegNo) (s : State) : s.Extends (s.intrude t seg) := by
  unfold State.intrude
  dsimp only
  split
  · split
    · exact ((State.updTruck_same ..).extends.trans (State.with_road_same ..).extends).trans (State.notify_extends ..)
    · exact (State.updTruck_same ..).extends
  · exact (State.updTruck_same ..).extends

theorem State.place_extends (t : TruckNo) (seg : SegNo) (run : Run) (s : State) : s.Extends (s.place t seg run) := by
  unfold State.place
  dsimp only
  split
  · exact (State.endIntrusion_same ..).extends
  · split
    · exact ((State.releaseSegs_same ..).extends.trans (State.updTruck_same ..).extends).trans
        (State.endIntrusion_same ..).extends
    · exact State.intrude_extends ..

theorem State.enter_extends (t : TruckNo) (seg : SegNo) (asked : Nat) (s : State) : s.Extends (s.enter t seg asked) := by
  unfold State.enter
  dsimp only
  split
  · exact (State.intrude_extends ..).trans (State.setGrant_same ..).extends
  · split
    · exact (State.endIntrusion_same ..).extends.trans (State.setGrant_same ..).extends
    · split
      · exact (State.endIntrusion_same ..).extends.trans (State.setGrant_same ..).extends
      · exact ((State.updSegment_same ..).extends.trans (State.updTruck_same ..).extends).trans
          (State.endIntrusion_same ..).extends

theorem State.acceptReport_extends (t : TruckNo) (beacon : StationNo) (seg : SegNo) (r : TruckReport) (s : State) :
    s.Extends (s.acceptReport t beacon seg r) := by
  unfold State.acceptReport
  dsimp only
  refine State.Extends.trans ?_ (State.finishTruck_extends ..)
  refine State.Extends.trans ?_ (State.testOverspeed_same ..).extends
  refine State.Extends.trans ?_ (State.recompute_same ..).extends
  refine State.Extends.trans ?_ (State.grantStage_same ..).extends
  refine State.Extends.trans ?_ (State.turn_same ..).extends
  split
  · exact (State.hear_same ..).extends.trans (State.place_extends ..)
  · exact (State.hear_same ..).extends.trans (State.enter_extends ..)

theorem State.truckReport_extends (beacon : StationNo) (r : TruckReport) (s : State) :
    s.Extends (s.truckReport beacon r) := by
  unfold State.truckReport
  split
  · exact (State.with_road_same ..).extends
  · split
    · exact (State.with_road_same ..).extends
    · exact State.acceptReport_extends ..

theorem State.loseTruck_extends (t : TruckNo) (s : State) : s.Extends (s.loseTruck t) := by
  unfold State.loseTruck
  dsimp only
  exact (((State.updTruck_same ..).extends.trans (State.with_segments_same ..).extends).trans
    (State.recompute_same ..).extends).trans (State.finishTruck_extends ..)

theorem State.clearTruckRec_extends (t : TruckNo) (s : State) : s.Extends (s.clearTruckRec t) := by
  unfold State.clearTruckRec
  dsimp only
  have h : ∀ sg dl, s.Extends { s with segments := sg, delivery := dl } := by
    intro sg dl
    exact (State.with_segments_same sg s).extends.trans (State.with_delivery_same dl { s with segments := sg }).extends
  exact ((h _ _).trans (State.updTruck_same ..).extends).trans (State.notify_extends ..)

/-! ### Calls -/

theorem State.recomputeWindow_extends (changed : List Nat) (s : State) : s.Extends (s.recomputeWindow changed) := by
  unfold State.recomputeWindow
  dsimp only
  refine State.Extends.trans (State.Extends.trans (State.Extends.forEach (fun c s => ?_) _ _)
      (State.Extends.forEach (fun c s => ?_) _ _)) (State.Extends.forEach (fun c s => ?_) _ _)
  all_goals split
  all_goals first
    | exact .rfl
    | exact State.notifyOn_extends ..
    | exact (State.updCall_same ..).extends.trans (State.notifyOn_extends ..)

theorem State.offerPortsChanged_extends (old : List PortId) (s : State) : s.Extends (s.offerPortsChanged old) := by
  unfold State.offerPortsChanged
  dsimp only
  refine (State.recomputeWindow_extends [] s).trans
    (State.Extends.forEach (fun p s => State.Extends.forEach (fun c s => ?_) _ _) _ _)
  split
  · exact State.notifyOn_extends ..
  · exact .rfl

theorem State.enterCall_extends (tag : Option Tag) (z : Zone) (k : CallKind) (s : State) :
    s.Extends (s.enterCall tag z k) := by
  unfold State.enterCall
  dsimp only
  exact ((State.with_calls_same ..).extends.trans (State.setOpenCall_same ..).extends).trans
    (State.recomputeWindow_extends ..)

theorem State.raiseCall_extends (tag : Option Tag) (z : Zone) (k : CallKind) (s : State) :
    s.Extends (s.raiseCall tag z k) := by
  unfold State.raiseCall
  dsimp only
  split
  · exact State.enterCall_extends ..
  · split
    · split
      · refine State.Extends.trans ?_ (State.enterCall_extends ..)
        refine State.Extends.trans ?_ (State.produceLamp_same ..).extends
        refine State.Extends.trans ?_ (State.setOpenCall_same ..).extends
        refine State.Extends.trans ?_ (State.notify_extends ..)
        exact (State.dropCall_same ..).extends.trans (State.with_calls_same _ (State.dropCall ..)).extends
      · exact (State.with_calls_same _ s).extends.trans (State.produceLamp_same ..).extends
    · exact (State.with_calls_same _ s).extends.trans (State.produceLamp_same ..).extends

theorem State.raiseCallKind_extends (n : Nat) (k : CallKind) (s : State) : s.Extends (s.raiseCallKind n k) := by
  unfold State.raiseCallKind
  split
  · exact .rfl
  · dsimp only
    split
    · exact (State.setCallKind_same ..).extends.trans (State.notifyOn_extends ..)
    · exact (State.setCallKind_same ..).extends.trans (State.recomputeWindow_extends ..)

theorem State.takePress_extends (tag : Tag) (z : Zone) (p : Press) (s : State) : s.Extends (s.takePress tag z p) := by
  have h : ∀ (c : Prop) [Decidable c] (n : Nat) (k : CallKind), s.Extends (if c then s.raiseCallKind n k else s) := by
    intro c _ n k
    split
    · exact State.raiseCallKind_extends ..
    · exact .rfl
  unfold State.takePress
  dsimp only
  split
  · exact .rfl
  · split
    · exact State.raiseCall_extends ..
    · split
      · exact (h _ _ _).trans (State.produceLamp_same ..).extends
      · exact h _ _ _

theorem State.escalateAll_extends (s : State) : s.Extends s.escalateAll := by
  unfold State.escalateAll
  dsimp only
  split
  · exact .rfl
  · exact (State.SameBut.forEach (fun n s => State.setCallKind_same n _ s) _ _).extends.trans
      (State.recomputeWindow_extends ..)

theorem State.takeCallFor_extends (p : PortId) (c : Call) (s : State) : s.Extends (s.takeCallFor p c) := by
  unfold State.takeCallFor
  dsimp only
  exact (((State.updCall_same ..).extends.trans (State.notifyOn_extends ..)).trans
    (State.produceLamp_same ..).extends).trans (State.recomputeWindow_extends ..)

theorem State.releaseCallFrom_extends (p : PortId) (c : Call) (s : State) : s.Extends (s.releaseCallFrom p c) := by
  unfold State.releaseCallFrom
  dsimp only
  refine State.Extends.trans ?_ (State.notifyOn_extends ..)
  split
  · exact (State.updCall_same ..).extends.trans (State.setCallKind_same ..).extends
  · exact (State.updCall_same ..).extends

theorem State.closeCallFrom_extends (p : PortId) (c : Call) (s : State) : s.Extends (s.closeCallFrom p c) := by
  unfold State.closeCallFrom
  dsimp only
  exact ((State.dropCall_same ..).extends.trans (State.setOpenCall_same ..).extends).trans (State.notifyOn_extends ..)

theorem State.portCallsReleased_extends (p : PortId) (old : List PortId) (s : State) :
    s.Extends (s.portCallsReleased p old) := by
  unfold State.portCallsReleased
  dsimp only
  exact (State.Extends.forEach (fun c s => State.releaseCallFrom_extends p c s) _ s).trans
    (State.offerPortsChanged_extends ..)

theorem State.advanceAge_extends (c : Call) (s : State) : s.Extends (s.advanceAge c) := by
  unfold State.advanceAge
  dsimp only
  split
  · exact (State.updCall_same ..).extends.trans (State.raiseCallKind_extends ..)
  · exact (State.updCall_same ..).extends

/-! ### The Interlock Table and the withdrawal state -/

theorem State.applyLevel_extends (n : EntryNo) (a : Action) (on : Bool) (s : State) : s.Extends (s.applyLevel n a on) := by
  unfold State.applyLevel
  split
  · exact (State.holdOutputs_same ..).extends
  · exact (State.holdOutputs_same ..).extends.trans (State.evalTrips_extends _)
  · exact State.addReasons_extends ..
  · exact .rfl

section
variable {raise : WState → Cause → State → State} (hr : ∀ (w : WState) (c : Cause) (s : State), s.Extends (raise w c s))
include hr

theorem State.fireWith_extends (n : EntryNo) (s : State) : s.Extends (s.fireWith raise n) := by
  unfold State.fireWith
  dsimp only
  split
  · exact (State.updEntry_same ..).extends.trans (hr _ _ _)
  · exact (State.updEntry_same ..).extends.trans (State.raiseCall_extends ..)
  · exact (State.updEntry_same ..).extends.trans (State.notify_extends ..)
  · exact (State.updEntry_same ..).extends

theorem State.evalEntryWith_extends (n : EntryNo) (s : State) : s.Extends (s.evalEntryWith raise n) := by
  unfold State.evalEntryWith
  dsimp only
  split
  · exact .rfl
  · split
    · exact ((State.updEntry_same ..).extends.trans (State.applyLevel_extends ..)).trans (State.fireWith_extends hr ..)
    · exact (State.updEntry_same ..).extends.trans (State.applyLevel_extends ..)

theorem State.evalWith_extends (watches : Condition → Bool) (s : State) : s.Extends (s.evalWith raise watches) := by
  refine State.Extends.forEach (fun n s => ?_) _ s
  split
  · exact State.evalEntryWith_extends hr ..
  · exact .rfl

theorem State.settleMusterWith_extends (before : MusterFigures) (s : State) :
    s.Extends (s.settleMusterWith raise before) := by
  unfold State.settleMusterWith
  dsimp only
  split
  · exact ((State.with_roster_same ..).extends.trans (State.notify_extends ..)).trans (State.evalWith_extends hr ..)
  · split
    · exact (State.with_roster_same _ s).extends.trans (State.notify_extends ..)
    · exact (State.with_roster_same _ s).extends

theorem State.changeStateWith_extends (target : WState) (cause : Cause) (s : State) :
    s.Extends (s.changeStateWith raise target cause) := by
  unfold State.changeStateWith
  dsimp only
  refine State.Extends.trans ?_ (State.evalWith_extends hr ..)
  refine State.Extends.trans ?_ (State.notify_extends ..)
  refine State.Extends.trans ?_ (State.judgeRefuges_same _).extends
  split
  · refine State.Extends.trans ?_ (State.withdrawCut_extends _)
    exact ((State.with_withdrawal_same _ s).extends.trans (State.rosterTakesState_same ..).extends).trans
      (State.settleMusterWith_extends hr ..)
  · exact ((State.with_withdrawal_same _ s).extends.trans (State.rosterTakesState_same ..).extends).trans
      (State.settleMusterWith_extends hr ..)

end

theorem State.raiseN_extends (fuel : Nat) (target : WState) (cause : Cause) (s : State) :
    s.Extends (s.raiseN fuel target cause) := by
  induction fuel generalizing target cause s with
  | zero => exact .rfl
  | succ n ih =>
    unfold State.raiseN
    split
    · exact State.changeStateWith_extends ih ..
    · exact .rfl

theorem State.raise_extends (target : WState) (cause : Cause) (s : State) : s.Extends (s.raise target cause) :=
  State.raiseN_extends ..

theorem State.evalWhere_extends (watches : Condition → Bool) (s : State) : s.Extends (s.evalWhere watches) :=
  State.evalWith_extends State.raise_extends ..

theorem State.settleMuster_extends (before : MusterFigures) (s : State) : s.Extends (s.settleMuster before) :=
  State.settleMusterWith_extends State.raise_extends ..

theorem State.lower_extends (target : WState) (p : PortId) (s : State) : s.Extends (s.lower target p) :=
  State.changeStateWith_extends State.raise_extends ..

theorem State.watchTrucks_extends {f : State → State} (hf : ∀ s : State, s.Extends (f s)) (s : State) :
    s.Extends (s.watchTrucks f) := by
  unfold State.watchTrucks
  dsimp only
  split
  · exact hf s
  · exact (hf s).trans (State.evalWhere_extends ..)

theorem State.setDoor_extends (n : RefugeNo) (d : Door) (s : State) : s.Extends (s.setDoor n d) := by
  unfold State.setDoor
  dsimp only
  split
  · exact .rfl
  · split
    · exact ((State.updRefuge_same ..).extends.trans (State.evalWhere_extends ..)).trans (State.raise_extends ..)
    · exact (State.updRefuge_same ..).extends.trans (State.evalWhere_extends ..)

theorem State.panelReply_extends (n : RefugeNo) (code : Nat) (a b : Bool) (s : State) :
    s.Extends (s.panelReply n code a b) := by
  unfold State.panelReply
  dsimp only
  exact ((State.updRefuge_same ..).extends.trans (State.judgeRefuges_same _).extends).trans (State.setDoor_extends ..)

theorem State.sight_extends (t : Tag) (sub : ReaderSubtype) (z : Zone) (s : State) : s.Extends (s.sight t sub z) := by
  unfold State.sight
  dsimp only
  exact (((State.sightRecord_same ..).extends.trans (State.lingerAtOnce_same ..).extends).trans
    (State.judgeRefuges_same _).extends).trans (State.settleMuster_extends ..)

/-! ### Zones and points -/

theorem State.alarmsTake_extends (z : Zone) (old new : Level) (s : State) : s.Extends (s.alarmsTake z old new) := by
  unfold State.alarmsTake
  split
  · refine State.Extends.forEach (fun g s => ?_) _ s
    unfold State.raiseAlarm
    split
    · exact (State.with_alarms_same _ s).extends.trans (State.notify_extends ..)
    · split
      · exact (State.updAlarm_same ..).extends.trans (State.notify_extends ..)
      · exact .rfl
  · refine State.Extends.forEach (fun g s => ?_) _ s
    unfold State.fallAlarm
    split
    · exact .rfl
    · split
      · exact (State.dropAlarm_same ..).extends.trans (State.notify_extends ..)
      · exact (State.updAlarm_same ..).extends.trans (State.notify_extends ..)
      · exact .rfl

theorem State.setLatch_extends (z : Zone) (s : State) : s.Extends (s.setLatch z) := by
  unfold State.setLatch
  exact (((State.updZone_same ..).extends.trans (State.notify_extends ..)).trans (State.addReasons_extends ..)).trans
    (State.evalTrips_extends _)

theorem State.clearLatch_extends (z : Zone) (s : State) : s.Extends (s.clearLatch z) := by
  unfold State.clearLatch
  exact (((State.updZone_same ..).extends.trans (State.notify_extends ..)).trans (State.clearGas_extends ..)).trans
    (State.evalTrips_extends _)

theorem State.setZoneLevel_extends (z : Zone) (new : Level) (s : State) : s.Extends (s.setZoneLevel z new) := by
  have hl : ∀ u : State, u.Extends (u.latchTakes z new) := fun u => by
    unfold State.latchTakes
    split
    · exact State.setLatch_extends ..
    · exact .rfl
  have hz : ∀ (old : Level) (u : State), u.Extends (u.zoneRaises z old new) := fun old u => by
    unfold State.zoneRaises
    split
    · exact State.raise_extends ..
    · split
      · exact State.raise_extends ..
      · exact .rfl
  unfold State.setZoneLevel
  dsimp only
  refine State.Extends.trans ?_ (State.evalWhere_extends ..)
  refine State.Extends.trans ?_ (hz _ _)
  refine State.Extends.trans ?_ (State.judgeRefuges_same _).extends
  refine State.Extends.trans ?_ (hl _)
  refine State.Extends.trans ?_ (State.alarmsTake_extends ..)
  exact (State.updZone_same ..).extends.trans (State.notify_extends ..)

theorem State.recomputeZone_extends (z : Zone) (s : State) : s.Extends (s.recomputeZone z) := by
  unfold State.recomputeZone
  dsimp only
  split
  · exact .rfl
  · exact State.setZoneLevel_extends ..

theorem State.recomputeZones_extends (s : State) : s.Extends s.recomputeZones :=
  State.Extends.forEach (fun z s => State.recomputeZone_extends z s) _ s

theorem State.setForced_extends (k : OutNo) (on : Bool) (s : State) : s.Extends (s.setForced k on) := by
  unfold State.setForced
  dsimp only
  exact ((State.setForcedFlag_same ..).extends.trans (State.notify_extends ..)).trans (State.evalTrips_extends _)

theorem State.takeSample_extends (pt : PointNo) (temp : Option Int) (raw : Nat) (s : State) :
    s.Extends (s.takeSample pt temp raw) := by
  unfold State.takeSample State.handSample
  dsimp only
  refine State.Extends.trans ?_ (State.evalWhere_extends ..)
  refine State.Extends.trans ?_ (State.recomputeZone_extends ..)
  refine State.Extends.trans ?_ (State.updPoint_same ..).extends
  refine State.Extends.trans ?_ (State.recomputeZone_extends ..)
  exact (State.updPoint_same ..).extends.trans (State.updPoint_same ..).extends

theorem State.channelReport_extends (st : StationNo) (temp : Option Int) (c : ChannelReport) (s : State) :
    s.Extends (s.channelReport st temp c) := by
  unfold State.channelReport
  dsimp only
  split
  · exact (State.unmapped_same ..).extends
  · split
    · exact (State.updPoint_same ..).extends
    · split
      · exact (State.updPoint_same ..).extends.trans (State.updPoint_same ..).extends
      · exact (State.updPoint_same ..).extends.trans (State.takeSample_extends ..)

theorem State.setStaleTrip_extends (pt : PointNo) (s : State) : s.Extends (s.setStaleTrip pt) := by
  unfold State.setStaleTrip
  exact (State.updPoint_same ..).extends.trans (State.recomputeZone_extends ..)

theorem State.failCal_extends (ln : LineNo) (cause : CalCause) (s : State) : s.Extends (s.failCal ln cause) := by
  unfold State.failCal
  split
  · exact (State.endCal_same ..).extends.trans (State.notify_extends ..)
  · exact .rfl

/-! ### The Integrity Monitor -/

theorem State.answerCheck_extends (who : Option (PortId × Byte)) (res : Result) (s : State) :
    s.Extends (s.answerCheck who res) := by
  unfold State.answerCheck
  split
  · exact State.respond_extends ..
  · exact .rfl

theorem State.abandonPass_extends (s : State) : s.Extends s.abandonPass := by
  unfold State.abandonPass
  split
  · exact (State.answerCheck_extends ..).trans (State.setPass_same ..).extends
  · exact (State.setPass_same ..).extends

theorem State.abandonCheck_extends (s : State) : s.Extends s.abandonCheck := by
  unfold State.abandonCheck
  split
  · exact State.abandonPass_extends s
  · exact .rfl

theorem State.latchFault_extends (result : BitVec 32) (s : State) : s.Extends (s.latchFault result) := by
  unfold State.latchFault
  split
  · exact .rfl
  · exact ((State.with_monitor_same _ s).extends.trans (State.notify_extends ..)).trans (State.evalTrips_extends _)

theorem State.unlatchFault_extends (s : State) : s.Extends s.unlatchFault := by
  unfold State.unlatchFault
  exact ((State.with_monitor_same _ s).extends.trans (State.notify_extends ..)).trans (State.evalTrips_extends _)

theorem State.completePass_extends (s : State) : s.Extends s.completePass := by
  unfold State.completePass
  dsimp only
  split
  · exact .rfl
  · split
    · exact (State.countPass_same s).extends
    · exact (State.countPass_same s).extends.trans (State.latchFault_extends ..)
  · split
    · exact ((State.countPass_same s).extends.trans (State.answerCheck_extends ..)).trans (State.unlatchFault_extends _)
    · exact ((State.countPass_same s).extends.trans (State.answerCheck_extends ..)).trans (State.latchFault_extends ..)

theorem State.takeImage_extends (img : Image) (s : State) : s.Extends (s.takeImage img) := by
  unfold State.takeImage
  exact (State.with_settings_same _ s).extends.trans (State.abandonPass_extends _)

/-! ### Stations and lines -/

theorem State.stationNotice_extends (st : StationNo) (old new : StationState) (before after : Nat) (s : State) :
    s.Extends (s.stationNotice st old new before after) := by
  unfold State.stationNotice
  repeat' split
  all_goals first
    | exact State.notify_extends ..
    | exact .rfl

theorem State.failCalOf_extends (st : StationNo) (cause : CalCause) (s : State) : s.Extends (s.failCalOf st cause) := by
  unfold State.failCalOf
  split
  · split
    · exact State.failCal_extends ..
    · exact .rfl
  · exact .rfl

theorem State.recomputeWhen_extends (w : ZonesWhen) (s : State) : s.Extends (s.recomputeWhen w) := by
  unfold State.recomputeWhen
  split
  · exact State.recomputeZones_extends s
  · exact .rfl

theorem State.handStation_extends (w : ZonesWhen) (st : StationNo) (old new : StationState) (s : State) :
    s.Extends (s.handStation w st old new) := by
  unfold State.handStation
  dsimp only
  split
  · exact .rfl
  · have h1 : s.Extends ((s.pointsFollow st old new).recomputeWhen w) :=
      (State.pointsFollow_same ..).extends.trans (State.recomputeWhen_extends ..)
    generalize (s.pointsFollow st old new).recomputeWhen w = u at h1 ⊢
    have h2 : s.Extends (if new = .lost then u.failCalOf st .stationLost
          else if new = .skipped then u.failCalOf st .stationSkipped else u) := by
      split
      · exact h1.trans (State.failCalOf_extends ..)
      · split
        · exact h1.trans (State.failCalOf_extends ..)
        · exact h1
    generalize (if new = .lost then u.failCalOf st .stationLost
          else if new = .skipped then u.failCalOf st .stationSkipped else u) = v at h2 ⊢
    have h3 : s.Extends (if old = .online then
          match v.refugeOf st with
          | some n => v.setDoor n .unknown
          | none => v
        else v) := by
      split
      · split
        · exact h2.trans (State.setDoor_extends ..)
        · exact h2
      · exact h2
    split
    · exact h3
    · exact h3.trans (State.evalWhere_extends ..)

theorem State.moveStation_extends (w : ZonesWhen) (st : StationNo) (new : StationState) (f : StationRec → StationRec)
    (s : State) : s.Extends (s.moveStation w st new f) := by
  unfold State.moveStation
  split
  · exact .rfl
  · exact ((State.updStation_same ..).extends.trans (State.stationNotice_extends ..)).trans (State.handStation_extends ..)

theorem State.heardFrom_extends (st : StationNo) (s : State) : s.Extends (s.heardFrom st) :=
  State.moveStation_extends ..

theorem State.miss_extends (st : StationNo) (s : State) : s.Extends (s.miss st) := by
  unfold State.miss
  split
  · exact .rfl
  · exact State.moveStation_extends ..

theorem State.badReply_extends (st : StationNo) (s : State) : s.Extends (s.badReply st) := by
  unfold State.badReply
  exact (State.updStation_same ..).extends.trans (State.miss_extends ..)

theorem State.calResult_extends (st : StationNo) (count : Nat) (s : State) : s.Extends (s.calResult st count) := by
  unfold State.calResult
  dsimp only
  split
  · split
    · exact (State.unmapped_same ..).extends
    · split
      · exact ((State.endCal_same ..).extends.trans (State.takeImage_extends ..)).trans (State.notify_extends ..)
      · exact State.failCal_extends ..
  · exact (State.unmapped_same ..).extends

theorem State.takeContent_extends (st : StationNo) (b : ReplyBody) (s : State) : s.Extends (s.takeContent st b) := by
  unfold State.takeContent
  split
  · dsimp only
    split
    · exact (State.Extends.forEach (fun c s => State.channelReport_extends st _ c s) _ s).trans
        (State.calResult_extends ..)
    · exact State.Extends.forEach (fun c s => State.channelReport_extends st _ c s) _ s
  · refine State.Extends.forEach (fun g s => ?_) _ s
    unfold State.takeSighting
    split
    · exact .rfl
    · dsimp only
      split
      · exact (State.sight_extends ..).trans (State.takePress_extends ..)
      · exact State.sight_extends ..
  · exact State.Extends.forEach (fun r s => State.watchTrucks_extends (fun s => State.truckReport_extends st r s) s) _ s
  · split
    · exact State.panelReply_extends ..
    · exact .rfl

theorem State.judgeSkip_extends (w : ZonesWhen) (st : StationNo) (s : State) : s.Extends (s.judgeSkip w st) := by
  unfold State.judgeSkip
  dsimp only
  repeat' split
  all_goals first
    | exact .rfl
    | exact (State.setDue_same ..).extends
    | exact State.moveStation_extends ..
    | exact (State.setDue_same ..).extends.trans (State.moveStation_extends ..)

theorem State.judgeSkips_extends (w : ZonesWhen) (s : State) : s.Extends (s.judgeSkips w) := by
  unfold State.judgeSkips
  split
  · exact State.Extends.forEach (fun st s => State.judgeSkip_extends w st s) _ s
  · exact .rfl

theorem State.snapListed_extends (st : StationNo) (r : StationRec) (listed : Bool) (s : State) :
    s.Extends (s.snapListed st r listed) := by
  unfold State.snapListed
  exact State.moveStation_extends ..

theorem State.snapUnlisted_extends (st : StationNo) (r : StationRec) (s : State) :
    s.Extends (s.snapUnlisted st r) := by
  unfold State.snapUnlisted
  exact State.moveStation_extends ..

theorem State.dropStation_extends (st : StationNo) (r : StationRec) (s : State) : s.Extends (s.dropStation st r) := by
  unfold State.dropStation
  dsimp only
  exact ((State.with_stations_same _ s).extends.trans (State.stationNotice_extends ..)).trans
    (State.handStation_extends ..)

theorem State.snapStation_extends (old new : List PollEntry) (st : StationNo) (s : State) :
    s.Extends (s.snapStation old new st) := by
  unfold State.snapStation
  repeat' split
  all_goals first
    | exact .rfl
    | exact State.dropStation_extends ..
    | exact State.snapListed_extends ..
    | exact State.snapUnlisted_extends ..

theorem State.beginPass_extends (ln : LineNo) (s : State) : s.Extends (s.beginPass ln) := by
  unfold State.beginPass State.snapshot
  dsimp only
  exact ((State.updLine_same ..).extends.trans
    (State.Extends.forEach (fun st s => State.snapStation_extends _ _ st s) _ _)).trans (State.pollNext_same ..).extends

theorem State.moveOn_extends (ln : LineNo) (s : State) : s.Extends (s.moveOn ln) := by
  unfold State.moveOn
  dsimp only
  split
  · exact (State.pollNext_same ..).extends.trans (State.beginPass_extends ..)
  · exact (State.pollNext_same ..).extends

theorem State.endPoll_extends (ln : LineNo) (s : State) : s.Extends (s.endPoll ln) := by
  unfold State.endPoll
  split
  · exact .rfl
  · next p _ =>
    dsimp only
    have h1 : s.Extends (s.updLine ln fun l => { l with poll := none, cursor := l.cursor + 1 }) :=
      (State.updLine_same ..).extends
    generalize (s.updLine ln fun l => { l with poll := none, cursor := l.cursor + 1 }) = u at h1 ⊢
    have h2 : s.Extends (if p.dueSkip then u.skip .atOnce p.station else u) := by
      split
      · exact h1.trans (State.moveStation_extends ..)
      · exact h1
    generalize (if p.dueSkip then u.skip .atOnce p.station else u) = v at h2 ⊢
    split
    · exact h2.trans (State.moveOn_extends ..)
    · exact h2.trans (State.stopLine_same ..).extends

theorem State.takeReply_extends (p : Poll) (bytes : List Byte) (s : State) : s.Extends (s.takeReply p bytes) := by
  unfold State.takeReply
  split
  · refine State.Extends.trans ?_ (State.takeContent_extends ..)
    exact State.Extends.trans (State.heardFrom_extends p.station s) (State.deliver_same p _).extends
  · exact State.badReply_extends ..

/-! ### The Supply Unit -/

theorem State.setSupply_extends (new : SupplyState) (s : State) : s.Extends (s.setSupply new) := by
  unfold State.setSupply
  exact (State.with_supply_same _ s).extends.trans (State.notify_extends ..)

theorem State.enterHoldup_extends (s : State) : (s.setSupply .holdup).Extends s.enterHoldup := by
  unfold State.enterHoldup
  dsimp only
  refine State.Extends.trans ?_ (State.beginSave_same _).extends
  refine State.Extends.trans ?_ (State.evalTrips_extends _)
  refine State.Extends.trans ?_ (State.abandonCheck_extends _)
  refine State.Extends.trans ?_ (State.with_settings_same _ _).extends
  refine State.Extends.trans ?_ (State.failCal_extends ..)
  refine State.Extends.trans ?_ (State.failCal_extends ..)
  refine State.Extends.trans ?_ (State.stopIfGap_same ..).extends
  exact (State.stopIfGap_same ..).extends

theorem State.changeSupply_extends (new : SupplyState) (s : State) :
    (s.setSupply new).Extends (s.changeSupply new) := by
  unfold State.changeSupply
  exact (State.judgeSkips_extends ..).trans (State.recomputeZones_extends _)

end Sys2Proof.Machine
end

