-- ==== Sys2Proof/Laws/Ops.lean ====
section
/-!
SUPPORT. What the shared operations do: the serving of a request (R156), a timer command that is due or not, and the
re-judging of the outputs (R59, R60, R147, R150). The KS46 has no addressed RAM, so there is no memory law here.
-/

-- The proofs are checked one after the other, within the memory that a check is given.
set_option Elab.async false

namespace Sys2Proof.Machine

/-! ### Due commands and requests -/

@[simp] theorem State.when_true (f : State → State) (s : State) : s.when true f = .next (State.finish (f s)) := rfl

@[simp] theorem State.when_false (f : State → State) (s : State) : s.when false f = .next s := rfl

/-- A timer command answers a next state whatever the state. -/
theorem State.when_next (ok : Bool) (f : State → State) (s : State) :
    s.when ok f = .next (if ok then State.finish (f s) else s) := by
  cases ok <;> rfl

theorem State.headRow_of_serves {s : State} {p : PortId} {row : ReqRow} {f : Frame} (h : s.Serves p row f) :
    s.headRow p row = some f := by
  have hs : s.serving p = true := by
    simp [State.serving, State.isUp, h.up, h.waiting, h.dormant, h.reset]
  simp [State.headRow, State.front, hs, h.head, h.row]

theorem rowOf_isRequest {f : Frame} (h : (rowOf f).isSome = true) : isRequestKind f.kind.toNat = true := by
  unfold rowOf at h
  unfold isRequestKind
  generalize f.kind.toNat = k at h ⊢
  simp only [decide_eq_true_eq]
  split at h <;> first | omega | simp at h

theorem State.genericAnswer_of_serves {s : State} {p : PortId} {row : ReqRow} {f : Frame} (h : s.Serves p row f) :
    s.genericAnswer f = none := by
  have hk : isRequestKind f.kind.toNat = true := rowOf_isRequest (by rw [h.row]; rfl)
  have hp : ¬ (s.supply.phase ≠ .running ∧ servedUnconfigured f = false) := by
    rintro ⟨h1, h2⟩
    rcases h.phase with h3 | h3
    · exact h1 h3
    · rw [h3] at h2; exact absurd h2 (by decide)
  simp only [State.genericAnswer, hk, h.size, h.holdup, Bool.not_true, Bool.false_eq_true, if_false, if_neg hp]

/-- R156: a request that passes the generic checks leaves its queue and its owning block acts. -/
theorem State.serve_of_serves {s : State} {p : PortId} {row : ReqRow} {f : Frame} (act : Frame → State → State)
    (h : s.Serves p row f) : s.serve p row act = .next (State.finish (act f (s.popRequest p))) := by
  simp only [State.serve, State.headRow_of_serves h, State.genericAnswer_of_serves h]

/-- R156: a row that the head of the queue does not spell changes nothing. -/
theorem State.serve_of_no_head {s : State} {p : PortId} {row : ReqRow} (act : Frame → State → State)
    (h : s.headRow p row = none) : s.serve p row act = .next s := by
  simp only [State.serve, h]

/-- R156: a request row answers a next state whatever the state. -/
theorem State.serve_next (p : PortId) (row : ReqRow) (act : Frame → State → State) (s : State) :
    ∃ t, s.serve p row act = .next t := by
  unfold State.serve
  split
  · exact ⟨_, rfl⟩
  · split <;> exact ⟨_, rfl⟩

/-! ### Trip outputs -/

theorem State.tripConds_congr {s t : State} (k : OutNo) (hi : t.settings = s.settings) (hz : t.zones = s.zones)
    (hh : t.trips[k.1].holders = s.trips[k.1].holders) (hf : t.trips[k.1].forced = s.trips[k.1].forced)
    (hs : t.supply = s.supply) : t.tripConds k = s.tripConds k := by
  simp only [State.tripConds, State.image, State.running, State.powered, hi, hz, hh, hf, hs]

/-- The conditions of R59 stand on the settings, the latches, the holders, the forced flag and the supply alone. -/
theorem State.SameBut.tripConds {l : List Area} {s t : State} (h : State.SameBut l s t) (k : OutNo)
    (h1 : .settings ∉ l := by decide) (h2 : .zones ∉ l := by decide) (h3 : .tripHolders ∉ l := by decide)
    (h4 : .forced ∉ l := by decide) (h5 : .supply ∉ l := by decide) : t.tripConds k = s.tripConds k :=
  State.tripConds_congr k (h.same _ h1) (h.same _ h2) (h.same _ h3 k) (h.same _ h4 k) (h.same _ h5)

/-- R59, R60: what an output is after it has been re-evaluated. -/
def State.tripAfter (s : State) (k : OutNo) : TripOut :=
  let opened := tripWanted (s.tripConds k).any s.monitor.fault s.trips[k.1].isOpen
  { s.trips[k.1] with isOpen := opened, faultHold := s.monitor.fault && opened }

theorem State.notifyOn_eq (ps : List PortId) (n : Notice) (s : State) :
    s.notifyOn ps n = { s with ports := (s.notifyOn ps n).ports } := by
  unfold State.notifyOn
  induction ps generalizing s with
  | nil => rfl
  | cons p ps ih =>
    rw [forEach_cons, ih]
    rfl

theorem State.evalTrip_trips (k : OutNo) (s : State) :
    (s.evalTrip k).trips = upd s.trips k fun _ => s.tripAfter k := by
  have h : ∀ (n : Notice) (u : State), (u.notify n).trips = u.trips := fun n u => by
    unfold State.notify
    rw [State.notifyOn_eq]
  unfold State.evalTrip State.tripAfter
  dsimp only
  split
  · rfl
  · rw [h]; rfl

theorem State.tripAfter_congr {s t : State} (k : OutNo) (hc : t.tripConds k = s.tripConds k)
    (hm : t.monitor = s.monitor) (ht : t.trips[k.1] = s.trips[k.1]) : t.tripAfter k = s.tripAfter k := by
  simp only [State.tripAfter, hc, hm, ht]

theorem State.evalTrip_tripAfter (k j : OutNo) (hjk : j ≠ k) (s : State) : (s.evalTrip k).tripAfter j = s.tripAfter j :=
  State.tripAfter_congr j ((State.evalTrip_same k s).tripConds j) ((State.evalTrip_same k s).same .monitor (by decide))
    (by rw [State.evalTrip_trips]; exact upd_get_ne _ _ _ fun e => hjk (Fin.ext e.symm))

/-- R59, R60: every trip output after a re-evaluation of all. -/
theorem State.evalTrips_get (k : OutNo) (s : State) : s.evalTrips.trips[k.1] = s.tripAfter k := by
  have go : ∀ (l : List OutNo), l.Nodup → ∀ s : State,
      (forEach l State.evalTrip s).trips[k.1] = if k ∈ l then s.tripAfter k else s.trips[k.1] := by
    intro l
    induction l with
    | nil => intro _ s; rfl
    | cons j l ih =>
      intro hl s
      obtain ⟨hj, hl⟩ := List.nodup_cons.1 hl
      rw [forEach_cons, ih hl]
      by_cases e : k = j
      · subst e
        rw [if_neg hj, if_pos List.mem_cons_self, State.evalTrip_trips, upd_get_self]
      · simp only [List.mem_cons, e, false_or]
        split
        · exact State.evalTrip_tripAfter j k e s
        · rw [State.evalTrip_trips]
          exact upd_get_ne _ _ _ fun h => e (Fin.ext h.symm)
  rw [State.evalTrips, go _ (List.nodup_finRange 8), if_pos (List.mem_finRange k)]

/-- R59 and R60 hold of every state whose trip outputs have just been re-evaluated. -/
theorem State.evalTrips_tripLaw (s : State) : s.evalTrips.TripLaw := by
  intro k
  rw [State.evalTrips_get, (State.evalTrips_same s).tripConds k,
    show s.evalTrips.monitor = s.monitor from (State.evalTrips_same s).same .monitor (by decide)]
  simp only [State.tripAfter, tripWanted, Bool.or_eq_true, Bool.and_eq_true]
  exact ⟨Or.inl, fun h => h.imp id And.left, trivial⟩

/-! ### All the outputs -/

theorem State.drivers_congr {s t : State} (k : OutNo) (hi : t.settings = s.settings) (hw : t.withdrawal = s.withdrawal)
    (ha : t.alarms = s.alarms) (hh : t.signals[k.1].holders = s.signals[k.1].holders) : t.drivers k = s.drivers k := by
  simp only [State.drivers, State.image, State.unackedZone, hi, hw, ha, hh]

/-- R147: the drivers stand on the settings, the withdrawal state, the alarms and the holders alone. -/
theorem State.SameBut.signalOn {l : List Area} {s t : State} (h : State.SameBut l s t) (k : OutNo)
    (h1 : .settings ∉ l := by decide) (h2 : .withdrawal ∉ l := by decide) (h3 : .alarms ∉ l := by decide)
    (h4 : .signalHolders ∉ l := by decide) (h5 : .supply ∉ l := by decide) : t.signalOn k = s.signalOn k := by
  have hd := State.drivers_congr k (h.same _ h1) (h.same _ h2) (h.same _ h3) (h.same _ h4 k)
  have hs : t.supply = s.supply := h.same _ h5
  simp only [State.signalOn, hd, State.powered, State.running, hs]

theorem stationLostAny_iff (s : State) :
    s.stationLostAny = true ↔ ∃ st : StationNo, ∃ r, s.stations[st.1].map StationRec.bare = some r ∧ r.state = .lost := by
  simp only [State.stationLostAny, List.any_eq_true, Vector.mem_toList_iff, Vector.mem_iff_getElem]
  constructor
  · rintro ⟨x, ⟨i, hi, rfl⟩, h⟩
    refine ⟨⟨i, hi⟩, ?_⟩
    cases e : s.stations[i] with
    | none => rw [e] at h; exact absurd h (by decide)
    | some r =>
      rw [e] at h
      exact ⟨r.bare, by rfl, by simpa [StationRec.bare] using h⟩
  · rintro ⟨st, r, h, hr⟩
    refine ⟨s.stations[st.1], ⟨st.1, st.2, rfl⟩, ?_⟩
    cases e : s.stations[st.1] with
    | none => rw [e] at h; exact absurd h (by simp)
    | some x =>
      rw [e] at h
      have : x.bare = r := by simpa using h
      subst this
      simpa [StationRec.bare] using hr

/-- R150: the causes of the fault line stand on the stations, the ports' states, the roster, the clock, the monitor, the
settings and the start record. -/
theorem State.SameBut.faultAsserted {l : List Area} {s t : State} (h : State.SameBut l s t)
    (h1 : .settings ∉ l := by decide) (h2 : .monitor ∉ l := by decide) (h3 : .supply ∉ l := by decide)
    (h4 : .stations ∉ l := by decide) (h5 : .links ∉ l := by decide) (h6 : .roster ∉ l := by decide)
    (h7 : .clock ∉ l := by decide) : t.faultAsserted = s.faultAsserted := by
  have hu : ∀ p, t.isUp p = s.isUp p := fun p => by
    have := congrArg Prod.fst (h.same _ h5 p)
    simp only [PortRec.link] at this
    simp only [State.isUp, this]
  have hl : t.stationLostAny = s.stationLostAny := by
    rw [Bool.eq_iff_iff, stationLostAny_iff, stationLostAny_iff]
    have := h.same _ h4
    simp only [State.SameAt] at this
    simp only [this]
  have hi : t.settings = s.settings := h.same _ h1
  have hm : t.monitor = s.monitor := h.same _ h2
  have hs : t.supply = s.supply := h.same _ h3
  have hr : t.roster = s.roster := h.same _ h6
  have hc : t.clock = s.clock := h.same _ h7
  unfold State.faultAsserted
  congr 1
  funext c
  simp only [State.image, hi]
  congr 1
  cases c <;>
    simp only [State.faultCause, hl, hm, hs, hr, hc, State.trunkPortDown, State.isolated, hu]

theorem State.judged_outputLaws (u : State) (h : u.TripLaw) : u.judgeSignals.judgeFault.OutputLaws := by
  have hj : State.SameBut [.outputs] u u.judgeSignals.judgeFault :=
    (State.judgeSignals_same u).into (State.judgeFault_same _)
  refine ⟨fun k => ?_, fun k => ?_, ?_⟩
  · rw [hj.tripConds k]
    exact h k
  · rw [hj.signalOn k]
    exact congrArg SignalOut.on (updAll_get ..)
  · unfold State.FaultLaw
    rw [(State.judgeFault_same u.judgeSignals).faultAsserted]
    rfl

/-- The laws of the outputs hold of every state whose outputs have just been re-judged. -/
theorem State.settle_outputLaws (s : State) : s.settle.OutputLaws :=
  State.judged_outputLaws _ (State.evalTrips_tripLaw s)

/-- The areas that the laws of the outputs stand on. -/
abbrev outputAreas : List Area :=
  [.clock, .stations, .zones, .alarms, .forced, .tripHolders, .outputs, .roster, .withdrawal, .signalHolders, .links,
   .settings, .monitor, .supply]

/-- A change of other areas keeps the laws of the outputs. -/
theorem State.OutputLaws.keep {l : List Area} {s t : State} (hs : s.OutputLaws) (h : State.SameBut l s t)
    (hl : ∀ a ∈ outputAreas, a ∉ l := by decide) : t.OutputLaws := by
  obtain ⟨h1, h2, h3⟩ := hs
  have ho := h.same .outputs (hl _ (by decide))
  have hm : t.monitor = s.monitor := h.same .monitor (hl _ (by decide))
  refine ⟨fun k => ?_, fun k => ?_, ?_⟩
  · rw [h.tripConds k (hl _ (by decide)) (hl _ (by decide)) (hl _ (by decide)) (hl _ (by decide)) (hl _ (by decide)),
      (ho.1 k).1, (ho.1 k).2.1, hm]
    exact h1 k
  · rw [h.signalOn k (hl _ (by decide)) (hl _ (by decide)) (hl _ (by decide)) (hl _ (by decide)) (hl _ (by decide)),
      (ho.1 k).2.2]
    exact h2 k
  · unfold State.FaultLaw
    rw [h.faultAsserted (hl _ (by decide)) (hl _ (by decide)) (hl _ (by decide)) (hl _ (by decide)) (hl _ (by decide))
      (hl _ (by decide)) (hl _ (by decide)), ho.2]
    exact h3

/-- The end of a command leaves the laws of the outputs in force, whatever the command left. -/
theorem State.finish_outputLaws (s : State) : s.finish.OutputLaws :=
  (State.settle_outputLaws s).keep (State.answerPorts_same s.settle)

theorem State.evalTrip_of_law (k : OutNo) (s : State) (h : s.TripLaw) : s.evalTrip k = s := by
  obtain ⟨h1, h2, h3⟩ := h k
  have ho : tripWanted (s.tripConds k).any s.monitor.fault s.trips[k.1].isOpen = s.trips[k.1].isOpen := by
    cases e : s.trips[k.1].isOpen with
    | false =>
      have : (s.tripConds k).any = false := by
        cases c : (s.tripConds k).any with
        | false => rfl
        | true => rw [h1 c] at e; exact absurd e (by decide)
      simp [tripWanted, this]
    | true =>
      rcases h2 e with c | c <;> simp [tripWanted, c]
  unfold State.evalTrip
  dsimp only
  rw [if_pos ho, ho]
  have hu : upd s.trips k (fun o => { o with isOpen := s.trips[k.1].isOpen, faultHold := s.monitor.fault && s.trips[k.1].isOpen })
      = s.trips := by
    unfold upd
    rw [← h3]
    apply Vector.ext
    intro i hi
    rw [Vector.getElem_set]
    split
    · next e => subst e; rfl
    · rfl
  unfold State.updTrip
  rw [hu]

/-- R59, R60: re-evaluating trip outputs that agree with their conditions changes nothing and sends nothing. -/
theorem State.evalTrips_of_law (s : State) (h : s.TripLaw) : s.evalTrips = s := by
  have go : ∀ l : List OutNo, forEach l State.evalTrip s = s := by
    intro l
    induction l with
    | nil => rfl
    | cons k l ih => rw [forEach_cons, State.evalTrip_of_law k s h, ih]
  exact go _

/-- Re-judging outputs that agree with their conditions changes nothing. -/
theorem State.settle_of_laws (s : State) (h : s.OutputLaws) : s.settle = s := by
  obtain ⟨h1, h2, h3⟩ := h
  unfold State.settle
  rw [State.evalTrips_of_law s h1]
  have hs : s.judgeSignals = s := by
    unfold State.judgeSignals
    rw [updAll_id _ _ fun k => by rw [← h2 k]]
  rw [hs]
  unfold State.judgeFault
  rw [← show s.faultLine = s.faultAsserted from h3]

/-! ### The walk of a line -/

theorem State.nextTurn_none (s : State) : ∀ (l : List PollEntry) (k : Nat), s.nextTurn k l = none →
    ∀ e ∈ l, s.passedOver e.station = true
  | [], _, _ => by simp
  | x :: l, k, h => by
    unfold State.nextTurn at h
    split at h
    · next hx =>
      intro e he
      rcases List.mem_cons.1 he with rfl | he
      · exact hx
      · exact State.nextTurn_none s l (k + 1) h e he
    · exact absurd h (by simp)

theorem State.nextTurn_some (s : State) : ∀ (l : List PollEntry) (k j : Nat) (e : PollEntry),
    s.nextTurn k l = some (j, e) →
    k ≤ j ∧ l[j - k]? = some e ∧ s.passedOver e.station = false ∧
      ∀ i x, i < j - k → l[i]? = some x → s.passedOver x.station = true
  | [], _, _, _, h => by simp [State.nextTurn] at h
  | x :: l, k, j, e, h => by
    unfold State.nextTurn at h
    split at h
    · next hx =>
      obtain ⟨h1, h2, h3, h4⟩ := State.nextTurn_some s l (k + 1) j e h
      have hj : j - k = (j - (k + 1)) + 1 := by omega
      refine ⟨by omega, by rw [hj]; simpa using h2, h3, fun i y hi hy => ?_⟩
      cases i with
      | zero =>
        rw [List.getElem?_cons_zero, Option.some.injEq] at hy
        exact hy ▸ hx
      | succ i => exact h4 i y (by omega) (by simpa using hy)
    · next hx =>
      simp only [Option.some.injEq, Prod.mk.injEq] at h
      obtain ⟨rfl, rfl⟩ := h
      refine ⟨Nat.le_refl _, by simp, by simpa using hx, fun i y hi => by omega⟩

/-- R2: after a move of the cursor the line stands at the first station from there on that is not SKIPPED, or in GAP. -/
theorem State.pollNext_walkFrom (ln : LineNo) (s : State) : (s.pollNext ln).WalkFrom ln (s.line ln).cursor := by
  unfold State.pollNext
  dsimp only
  split
  · next k e h =>
    obtain ⟨h1, h2, h3, h4⟩ := State.nextTurn_some s _ _ _ _ h
    rw [List.getElem?_drop, show (s.line ln).cursor + (k - (s.line ln).cursor) = k by omega] at h2
    unfold State.WalkFrom
    rw [State.updLine_line_self]
    refine ⟨rfl, h1, h2, h3, fun j x hj hjk hx => ?_⟩
    refine h4 (j - (s.line ln).cursor) x (by dsimp only at hjk; omega) ?_
    rw [List.getElem?_drop, show (s.line ln).cursor + (j - (s.line ln).cursor) = j by omega]
    exact hx
  · next h =>
    unfold State.WalkFrom
    rw [State.updLine_line_self]
    refine ⟨rfl, rfl, fun j x hj hx => ?_⟩
    refine State.nextTurn_none s _ _ h x ?_
    refine List.mem_iff_getElem?.2 ⟨j - (s.line ln).cursor, ?_⟩
    rw [List.getElem?_drop, show (s.line ln).cursor + (j - (s.line ln).cursor) = j by omega]
    exact hx

end Sys2Proof.Machine
end

