-- ==== Sys2Proof/Laws/PerInstr.lean ====
section
/-!
SUPPORT. The per-instruction family: a command of a request row names the client port it takes its request from, and is
well-formed whatever its operands.
-/

-- The proofs are checked one after the other, within the memory that a check is given.
set_option Elab.async false

namespace Sys2Proof.Laws

/-- A command of a request row (R156) names its port and is well-formed. -/
def Addressee.Statement (i : Instr) : Prop :=
  i.row.isSome = true → i.port.isSome = true ∧ i.wellFormed = true

theorem Addressee.gapEnd (ln : LineNo) : Addressee.Statement (.gapEnd ln) := nofun
theorem Addressee.replyTaken (ln : LineNo) (bytes : List Byte) : Addressee.Statement (.replyTaken ln bytes) := nofun
theorem Addressee.replyTimeout (ln : LineNo) : Addressee.Statement (.replyTimeout ln) := nofun
theorem Addressee.calTimeout (ln : LineNo) : Addressee.Statement (.calTimeout ln) := nofun
theorem Addressee.staleLimitExpiry (pt : PointNo) : Addressee.Statement (.staleLimitExpiry pt) := nofun
theorem Addressee.unseenAdvance (tag : Tag) : Addressee.Statement (.unseenAdvance tag) := nofun
theorem Addressee.callAgeAdvance (number : Nat) : Addressee.Statement (.callAgeAdvance number) := nofun
theorem Addressee.truckLossTimerExpiry (t : TruckNo) : Addressee.Statement (.truckLossTimerExpiry t) := nofun
theorem Addressee.byteGapTimeout (p : PortId) : Addressee.Statement (.byteGapTimeout p) := nofun
theorem Addressee.frameTaken (p : PortId) (bytes : List Byte) : Addressee.Statement (.frameTaken p bytes) := nofun
theorem Addressee.supervisionTimerExpiry (p : PortId) : Addressee.Statement (.supervisionTimerExpiry p) := nofun
theorem Addressee.noticeTransmitted (p : PortId) : Addressee.Statement (.noticeTransmitted p) := nofun
theorem Addressee.read (p : PortId) : Addressee.Statement (.read p) := fun _ => ⟨rfl, rfl⟩
theorem Addressee.findTag (p : PortId) : Addressee.Statement (.findTag p) := fun _ => ⟨rfl, rfl⟩
theorem Addressee.setTime (p : PortId) : Addressee.Statement (.setTime p) := fun _ => ⟨rfl, rfl⟩
theorem Addressee.keepalive (p : PortId) : Addressee.Statement (.keepalive p) := fun _ => ⟨rfl, rfl⟩
theorem Addressee.ackAlarm (p : PortId) : Addressee.Statement (.ackAlarm p) := fun _ => ⟨rfl, rfl⟩
theorem Addressee.resetTripZone (p : PortId) : Addressee.Statement (.resetTripZone p) := fun _ => ⟨rfl, rfl⟩
theorem Addressee.resetTripAll (p : PortId) : Addressee.Statement (.resetTripAll p) := fun _ => ⟨rfl, rfl⟩
theorem Addressee.resetTripOutput (p : PortId) : Addressee.Statement (.resetTripOutput p) := fun _ => ⟨rfl, rfl⟩
theorem Addressee.forceTrip (p : PortId) : Addressee.Statement (.forceTrip p) := fun _ => ⟨rfl, rfl⟩
theorem Addressee.takeCall (p : PortId) : Addressee.Statement (.takeCall p) := fun _ => ⟨rfl, rfl⟩
theorem Addressee.releaseCall (p : PortId) : Addressee.Statement (.releaseCall p) := fun _ => ⟨rfl, rfl⟩
theorem Addressee.closeCall (p : PortId) : Addressee.Statement (.closeCall p) := fun _ => ⟨rfl, rfl⟩
theorem Addressee.declare (p : PortId) : Addressee.Statement (.declare p) := fun _ => ⟨rfl, rfl⟩
theorem Addressee.standDown (p : PortId) : Addressee.Statement (.standDown p) := fun _ => ⟨rfl, rfl⟩
theorem Addressee.blockSegment (p : PortId) : Addressee.Statement (.blockSegment p) := fun _ => ⟨rfl, rfl⟩
theorem Addressee.openSegment (p : PortId) : Addressee.Statement (.openSegment p) := fun _ => ⟨rfl, rfl⟩
theorem Addressee.clearTruck (p : PortId) : Addressee.Statement (.clearTruck p) := fun _ => ⟨rfl, rfl⟩
theorem Addressee.calStart (p : PortId) : Addressee.Statement (.calStart p) := fun _ => ⟨rfl, rfl⟩
theorem Addressee.editOpen (p : PortId) : Addressee.Statement (.editOpen p) := fun _ => ⟨rfl, rfl⟩
theorem Addressee.editWrite (p : PortId) : Addressee.Statement (.editWrite p) := fun _ => ⟨rfl, rfl⟩
theorem Addressee.editCommit (p : PortId) : Addressee.Statement (.editCommit p) := fun _ => ⟨rfl, rfl⟩
theorem Addressee.editCancel (p : PortId) : Addressee.Statement (.editCancel p) := fun _ => ⟨rfl, rfl⟩
theorem Addressee.editExpired : Addressee.Statement (.editExpired) := nofun
theorem Addressee.checkClear (p : PortId) : Addressee.Statement (.checkClear p) := fun _ => ⟨rfl, rfl⟩
theorem Addressee.fullReset (p : PortId) : Addressee.Statement (.fullReset p) := fun _ => ⟨rfl, rfl⟩
theorem Addressee.integrityPassStart : Addressee.Statement (.integrityPassStart) := nofun
theorem Addressee.integrityPassComplete : Addressee.Statement (.integrityPassComplete) := nofun
theorem Addressee.clockSecond : Addressee.Statement (.clockSecond) := nofun
theorem Addressee.mainsOkLow : Addressee.Statement (.mainsOkLow) := nofun
theorem Addressee.mainsOkHigh : Addressee.Statement (.mainsOkHigh) := nofun
theorem Addressee.battLowAsserted : Addressee.Statement (.battLowAsserted) := nofun
theorem Addressee.battLowCleared : Addressee.Statement (.battLowCleared) := nofun
theorem Addressee.saveCopy : Addressee.Statement (.saveCopy) := nofun
theorem Addressee.saveComplete : Addressee.Statement (.saveComplete) := nofun
theorem Addressee.powerOn : Addressee.Statement (.powerOn) := nofun
theorem Addressee.selfTestComplete (failed : Bool) : Addressee.Statement (.selfTestComplete failed) := nofun
theorem Addressee.restoreComplete : Addressee.Statement (.restoreComplete) := nofun
theorem Addressee.frameByteArrives (p : PortId) (byte : Byte) : Addressee.Statement (.frameByteArrives p byte) := nofun
theorem Addressee.fullResetColdStart : Addressee.Statement (.fullResetColdStart) := nofun

end Sys2Proof.Laws
end

