-- ==== Sys2Proof/Tests/Slice0.lean ====
section
/-!
SUPPORT. The model's own tests: ill-formed commands that WellFormed refuses, the check values of 12.4, the manual's worked
sequences 2.10, 3.9 and 6.12, single commands, and for each statement with hypotheses a witness that meets them.
-/
namespace Sys2Proof.Tests

-- The kernel checks of this file run one after the other, within the memory that a check is given.
set_option Elab.async false

open Sys2Proof.Machine

/-! ### Well-formed commands -/

theorem test_wf_reply_short : (Instr.replyTaken .one [0x7E#8, 2, 3, 4, 1, 0, 0]).wellFormed = false := by decide
theorem test_wf_reply_no_marker : (Instr.replyTaken .one [0x7D#8, 0, 3, 4, 0, 0]).wellFormed = false := by decide
theorem test_wf_reply_whole : (Instr.replyTaken .one [0x7E#8, 0, 3, 4, 0, 0]).wellFormed = true := by decide
theorem test_wf_frame_long : (Instr.frameTaken .a [0x7E#8, 0, 0, 0x16, 1, 0, 0, 0]).wellFormed = false := by decide
theorem test_wf_frame_whole : (Instr.frameTaken .a [0x7E#8, 0, 0, 0x16, 1, 0, 0]).wellFormed = true := by decide
theorem test_wf_unseen_no_tag : (Instr.unseenAdvance 0xFFFFFF#24).wellFormed = false := by decide
theorem test_wf_age_no_call : (Instr.callAgeAdvance 0).wellFormed = false := by decide
theorem test_wf_age_past_calls : (Instr.callAgeAdvance 256).wellFormed = false := by decide

/-! ### Check values (12.4), over the nine bytes 31 to 39 -/

def nine : List Byte := (List.range 9).map fun i => byte (0x31 + i)

theorem test_crc16 : crc16 nine = 0x29B1#16 := by decide +kernel
theorem test_crc32 : crc32 nine = 0xFC891918#32 := by decide +kernel

/-! ### The section of the worked sequences 2.10, 3.9, 6.12 and 6.13 -/

def n16 (n : Nat) : List Nat := [n / 256, n % 256]

/-- Records written over the default image: the stations, lists and zones of 2.10 and 3.9, the road of 6.12. -/
def section4 : Image :=
  [(1, 2, [1, 0, 4, 0]), (1, 6, [2, 0, 4, 0]), (1, 11, [3, 0, 5, 0]), (1, 19, [4, 0, 6, 0]),
   (1, 62, [4, 3, 7, 12, 20] ++ List.replicate 27 0),
   (2, 17, [1, 3, 2, 0, 4] ++ n16 205 ++ n16 500 ++ [4] ++ n16 125 ++ n16 150 ++ n16 200 ++ n16 10 ++ [3, 1] ++ n16 30
     ++ [64, 0]),
   (3, 0, [0, 20, 40, 60, 80, 100, 120, 140].flatMap n16 ++ [0, 100, 200, 500].flatMap n16
     ++ (List.replicate 8 1024).flatMap n16 ++ [1016, 1024, 1040, 1072, 1052, 1060, 1080, 0xFFFF].flatMap n16
     ++ (List.replicate 16 1024).flatMap n16 ++ List.replicate 8 0),
   (4, 0, n16 0 ++ [8] ++ n16 2 ++ [4] ++ n16 5 ++ [2] ++ n16 10 ++ [1] ++ [0, 0, 0, 0]),
   (5, 6, [2, 0]), (5, 16, n16 (8 + 16 + 32) ++ [0, 0]), (5, 17, n16 16 ++ [0, 0]),
   (6, 7, [3] ++ n16 180 ++ n16 200 ++ [0]), (6, 8, [4] ++ n16 220 ++ n16 250 ++ [0]),
   (6, 9, [4] ++ n16 150 ++ n16 150 ++ [0]), (6, 10, [4] ++ n16 200 ++ n16 200 ++ [0]),
   (6, 24, [0, 0, 10, 50, 40, 80, 80, 120, 150, 160, 250, 200, 400, 250, 600, 300].flatMap n16),
   (7, 2, n16 501 ++ [0, 0]), (8, 0, [6, 10, 0, 0])].foldl (fun img r => img.write r.1 r.2.1 (r.2.2.map byte)) .default

theorem test_section4_valid : section4.firstFailure = none := by decide +kernel

/-! ### 2.10: the pipeline -/

/-- s, rise, v1, factor, v2 and DEGRADED of point 17 after a sample with the head at 27.0 degrees. -/
def sample (raw : Nat) (p : PointRt) : PointRt := pipeline (section4.point 17) (section4.comp .ch4) (some 54) raw p

def seeded (s : Nat) : PointRt := { PointRt.cold with s := some s }

def figures (p : PointRt) : Option Nat × Option Nat × Option Nat × Option Nat × Option Nat × Bool :=
  (p.v1, p.factor, p.v2, p.s, p.rise, p.flags.degraded)

theorem test_sample1 : figures (sample 1230 (seeded 120)) = (some 125, some 1054, some 129, some 122, some 2, false) := by
  decide +kernel
theorem test_sample2 : figures (sample 1230 (seeded 122)) = (some 125, some 1054, some 129, some 123, some 1, false) := by
  decide +kernel
theorem test_sample3 : figures (sample 1640 (seeded 123)) = (some 175, some 1063, some 182, some 137, some 14, false) := by
  decide +kernel
theorem test_sample4 : figures (sample 2460 (seeded 137)) = (some 275, some 1024, some 275, some 171, some 34, true) := by
  decide +kernel
theorem test_sample5 : figures (sample 2460 (seeded 171)) = (some 275, some 1024, some 275, some 197, some 26, true) := by
  decide +kernel
theorem test_sample6 : figures (sample 1230 (seeded 197)) = (some 125, some 1054, some 129, some 180, some 0, false) := by
  decide +kernel

/-! ### 3.9: the levels -/

/-- The level states of point 17 after a run of samples, each with its s and its rise. -/
def levelsAfter (samples : List (Nat × Nat)) : LevelStates :=
  samples.foldl (fun l x => sampleLevels (section4.point 17) (section4.dwellTable .ch4) x.1 (some x.2) l) .idle

theorem test_levels_sample3 : levelsAfter [(122, 2), (123, 1), (137, 14)] = { LevelStates.idle with warn := .qualified } := by
  decide +kernel

/-- The samples 1 to 14 of 3.9: TRIP is CLEARING 2. -/
theorem test_levels_sample14 :
    levelsAfter [(122, 2), (123, 1), (137, 14), (171, 34), (197, 26), (180, 0), (168, 0), (159, 0), (152, 0), (147, 0),
      (143, 0), (140, 0), (138, 0), (136, 0)]
      = { warn := .qualified, trip := .clearing 2, withdraw := .idle } := by decide +kernel

/-! ### 6.12: the caps -/

/-- The cap of truck 2 at a report. -/
def capAt (cur last : SegNo) (position : Nat) : Nat := proceedCap section4 .inbye { cur := cur, last := last } position

theorem test_caps : [capAt 7 9 60, capAt 7 9 90, capAt 7 9 170, capAt 8 9 5, capAt 8 10 5, capAt 8 10 130]
    = [200, 200, 200, 200, 250, 150] := by decide +kernel

theorem test_overspeed : (overspeedTest 172 150 20, overspeedTest 168 150 20) = (true, false) := by decide

/-! ### States for single commands -/

/-- RUNNING on MAINS, over an empty image. -/
def idle : State := { State.reset with supply := { Supply.cold with phase := .running } }

/-- The section of the worked sequences, RUNNING on MAINS. -/
def site : State := { idle with settings := { active := some section4, reference := some section4.crc, edit := none } }

def frameOf (kind : Nat) (body : List Nat) : Frame := { kind := byte kind, tag := 7#8, body := body.map byte }

/-- Port A is UP with these requests in its queue. -/
def onA (s : State) (fs : List Frame) : State :=
  { s with ports := { s.ports with a := { PortRec.cold with state := .up, requests := fs } } }

def asking (s : State) (kind : Nat) (body : List Nat) : State := onA s [frameOf kind body]

/-- What a next state holds. -/
def after {α : Type} (o : Host.Outcome State Fault Refusal) (f : State → α) : Option α :=
  match o with
  | .next t => some (f t)
  | _ => none

/-- The result of the last response of port A. -/
def lastResult (t : State) : Option Result := (t.port .a).responses.getLast?.map Response.result

theorem asking_serves {s : State} {kind : Nat} {body : List Nat} {row : ReqRow} (h1 : rowOf (frameOf kind body) = some row)
    (h2 : bodySizeOk (frameOf kind body) = true) (h3 : s.supply.phase = .running) (h4 : s.supply.state = .mains)
    (h5 : s.supply.resetPending = none) (h6 : s.monitor.pass = none) :
    (asking s kind body).Serves .a row (frameOf kind body) :=
  ⟨rfl, rfl, h1, h2, .inl h3, fun h => (nomatch h4.symm.trans h), fun h => (nomatch h4.symm.trans h), h5,
    by simp only [State.waiting, asking, onA, h6]⟩

/-- A request over a RUNNING state on MAINS without a pass in flight. -/
def calm (s : State) : Bool :=
  decide (s.supply.phase = .running) && decide (s.supply.state = .mains) && s.supply.resetPending.isNone
    && s.monitor.pass.isNone

theorem serves {s : State} {kind : Nat} {body : List Nat} {row : ReqRow} (h1 : rowOf (frameOf kind body) = some row)
    (h2 : bodySizeOk (frameOf kind body) = true) (h : calm s = true) :
    (asking s kind body).Serves .a row (frameOf kind body) := by
  simp only [calm, Bool.and_eq_true, decide_eq_true_eq, Option.isNone_iff_eq_none] at h
  exact asking_serves h1 h2 h.1.1.1 h.1.1.2 h.1.2 h.2

theorem settle_supply (s : State) : s.settle.supply = s.supply := (State.settle_same s).same .supply (by decide)

theorem settle_requests (s : State) (p : PortId) : (s.settle.port p).requests = (s.port p).requests :=
  (State.settle_same s).same .requests (by decide) p

theorem settle_up (s : State) (p : PortId) : (s.settle.port p).state = (s.port p).state :=
  congrArg Prod.fst ((State.settle_same s).same .links (by decide) p)

theorem settle_assembly (s : State) (p : PortId) : (s.settle.port p).assembly = (s.port p).assembly :=
  congrArg (fun l => l.2.2.2.2.2.1) ((State.settle_same s).same .links (by decide) p)

theorem settle_waiting (s : State) (p : PortId) : s.settle.waiting p = s.waiting p := by
  unfold State.waiting
  rw [show s.settle.monitor = s.monitor from (State.settle_same s).same .monitor (by decide)]

/-- The same with the outputs judged, as they are after every command. -/
theorem serves_settled {s : State} {p : PortId} {row : ReqRow} {f : Frame} (h : s.Serves p row f) :
    s.settle.OutputLaws ∧ s.settle.Serves p row f :=
  ⟨State.settle_outputLaws s,
   ⟨(settle_up s p).trans h.up, (congrArg List.head? (settle_requests s p)).trans h.head, h.row, h.size,
    by rw [settle_supply]; exact h.phase, by rw [settle_supply]; exact h.holdup, by rw [settle_supply]; exact h.dormant,
    by rw [settle_supply]; exact h.reset, (settle_waiting s p).trans h.waiting⟩⟩

/-! ### Single commands -/

/-- R130: DECLARE raises the state, with the port as its cause. -/
theorem test_declare : after (exec (.declare .a) (asking idle 0x0A [1])) (fun t => (t.withdrawal.state, t.withdrawal.cause))
    = some (.alert, some (.declared .a)) := by decide +kernel

/-- R130, 12.1: state 0 is MALFORMED. -/
theorem test_declare_malformed : after (exec (.declare .a) (asking idle 0x0A [0])) lastResult = some (some .malformed) := by
  decide +kernel

/-- R156: a row that the head does not spell changes nothing. -/
theorem test_other_row : after (exec (.keepalive .a) (asking idle 0x0A [1])) (fun t => (t.port .a).requests.length) = some 1 := by
  decide +kernel

/-- R156: an unknown kind is answered MALFORMED with the kind 0x80 when it reaches the head. -/
theorem test_unknown_kind :
    after (exec (.keepalive .a) (onA idle [frameOf 0x16 [], frameOf 0x17 []])) (fun t =>
      ((t.port .a).requests.length, (t.port .a).responses.map fun r => (r.kind, r.result)))
      = some (0, [(0x96#8, .done), (0x80#8, .malformed)]) := by decide +kernel

/-- R58: a forced output is OPEN; outputs close in RUNNING without a condition. -/
theorem test_force : after (exec (.forceTrip .a) (asking idle 0x06 [7])) (fun t => (t.trips[7].isOpen, t.trips[6].isOpen))
    = some (true, false) := by decide +kernel

/-- R114: segment 23 takes MANUAL; 24 is no segment. -/
theorem test_block : after (exec (.blockSegment .a) (asking idle 0x0C [23])) (fun t => (t.segments[23].manual, lastResult t))
    = some (true, some .done) := by decide +kernel
theorem test_block_outside : after (exec (.blockSegment .a) (asking idle 0x0C [24])) lastResult = some (some .malformed) := by
  decide +kernel

/-- R158: the counter takes the value, most significant byte first. -/
theorem test_set_time : after (exec (.setTime .a) (asking idle 0x03 [1, 2, 3, 4])) (fun t => (t.clock.seconds, t.clock.unset))
    = some (0x01020304, false) := by decide +kernel

/-- R158: the counter wraps. -/
theorem test_clock_wraps :
    after (exec .clockSecond { idle with tick := 100, clock := { Clock.cold with seconds := 4294967295 } })
      (fun t => t.clock.seconds) = some 0 := by decide +kernel

/-- R173, R174: a FULL_RESET in NORMAL. -/
theorem test_full_reset : after (exec (.fullReset .a) (asking idle 0x15 [])) (fun t => t.supply.resetPending)
    = some (some .a) := by decide +kernel

/-- R171: with BATT_LOW asserted, MAINS_OK going low out of MAINS is HOLDUP, and the save waits for the lines. -/
theorem test_holdup : after (exec .mainsOkLow { idle with supply := { idle.supply with battLow := true } })
    (fun t => (t.supply.state, t.supply.save, t.trips[0].isOpen)) = some (.holdup, .quiet, true) := by decide +kernel

/-- R3, R12: the gap of 100 ms is over at tick 10; the pass begins at station (1, 3), whose record a snapshot made. -/
theorem test_gap_end :
    after (exec (.gapEnd .one) { site with
        tick := 10, stations := site.stations.set 2 (some (StationRec.cold .sensorHead (section4.station 2)))
        lines := { site.lines with one := { LineRec.cold with state := .gap, gapStart := some 0 } } })
      (fun t => (t.line .one).poll.map Poll.station) = some (some 2) := by decide +kernel

/-- The poll of (1, 3) in flight on Field Line 1, at the head of the list of 2.10. -/
def polling (s : State) : State :=
  { s with
    stations := s.stations.set 2 (some (StationRec.cold .sensorHead (section4.station 2)))
    lines := { s.lines with one := { LineRec.cold with
      state := .polling, pollList := section4.pollEntries .one
      poll := some { station := 2, kind := .sensorHead, zero := none, lamps := [], demands := [], beacon := none
                     dueSkip := false } } } }

def head (raw : Nat) : List Byte :=
  replyFrame 2 (.sensorHead (some 54) none [{ channel := 2, raw := raw, ok := true }])

/-- R8, R19, R30: a good reply of the head; the first sample seeds s. -/
theorem test_reply : after (exec (.replyTaken .one (head 1230)) (polling site))
    (fun t => (t.points[17].s, t.stations[2].map StationRec.state)) = some (some 129, some .online) := by decide +kernel

/-- R7: a reply whose CRC is wrong is bad, and a miss. -/
theorem test_bad_reply : after (exec (.replyTaken .one ((head 1230).dropLast ++ [0])) (polling site))
    (fun t => t.stations[2].map fun r => (r.state, r.bad, r.misses)) = some (some (.missed, 1, 1)) := by decide +kernel

/-- The poll of `polling` as the last one of its pass, under a gap of 0. -/
def lastPoll : State :=
  { polling site with
    settings := { site.settings with
      active := some (section4.write 11 0 ([3, 0, 0, 7, 208, 0xFF, 0xFF].map byte ++ defaultTiming.drop 7)) } }

/-- R156: a response waits for the end of the notice that is being sent, and goes out before the next notice. -/
theorem test_response_waits :
    let s := (asking idle 0x16 []).updPort .a fun r => { r with notices := [(4, .settingsCleared), (5, .settingsCleared)] }
    (after (exec (.keepalive .a) s) fun t => ((t.port .a).sent.length, (t.port .a).held.map Response.result))
      = some (0, [.done]) := by decide +kernel

/-- R3: under a gap of 0 the end of the last poll begins the next pass, with station 2 to be polled again. -/
theorem test_gap_zero : after (exec (.replyTimeout .one) lastPoll) (fun t =>
    ((t.line .one).state, (t.line .one).poll.map Poll.station)) = some (.polling, some 2) := by decide +kernel

/-- R166: a refuge's zone byte of 22 is no zone 6, so the panel of zone 6, which is checked before it, has no refuge. -/
theorem test_raw_zone : ((section4.write 8 0 [22#8, 10, 0, 0]).firstFailure).map (fun x => (x.1, x.2.1)) = some (1, 19) := by
  decide +kernel

/-- R152: a frame that arrives byte by byte makes port B UP and joins its queue. -/
theorem test_last_byte :
    let bytes := portFrame (frameOf 0x16 [])
    after (exec (.frameByteArrives .b (bytes.getLastD 0)) (idle.setAssembly .b bytes.dropLast))
      (fun t => ((t.port .b).state, (t.port .b).requests.length, (t.port .b).valid)) = some (.up, 1, 1) := by decide +kernel


/-! ### Witnesses of the statements' hypotheses -/

theorem all_some {α : Type} {x : Option α} {P : α → Prop} [DecidablePred P] :
    (∀ r, x = some r → P r) ↔ x.all (fun r => decide (P r)) = true := by cases x <;> simp

theorem ex_some {α : Type} {x : Option α} {P : α → Prop} [DecidablePred P] :
    (∃ r, x = some r ∧ P r) ↔ x.any (fun r => decide (P r)) = true := by cases x <;> simp

/-- StepTakesFront: a queue of two, and an empty one. -/
theorem witness_StepTakesFront : ({ State.reset with pending := [.powerOn, .clockSecond] }).pending = [.powerOn, .clockSecond]
    ∧ State.reset.pending = [] := ⟨rfl, rfl⟩

/-- UndueChangesNothing, first part: a state in SELF_TEST and one in RUNNING. -/
theorem witness_UndueChangesNothing :
    (State.reset.line .one).state ≠ .gap ∧ (State.reset.line .one).poll = none ∧ (State.reset.line .one).slot = none ∧
    State.reset.points[95].flags.stale = false ∧ State.reset.miner 1#24 = none ∧ State.reset.call 1 = none ∧
    State.reset.trucks[15].state ≠ .active ∧ (State.reset.port .a).assembly = [] ∧ (State.reset.port .a).state = .down ∧
    (State.reset.port .a).notices = [] ∧ State.reset.settings.edit = none ∧ State.reset.supply.phase ≠ .running ∧
    State.reset.monitor.pass = none ∧ ({ State.reset with clock := { Clock.cold with stopped := true } }).clock.stopped = true ∧
    State.reset.supply.save = .none ∧ idle.supply.phase ≠ .selfTest ∧ State.reset.supply.phase ≠ .restore ∧
    State.reset.supply.resetPending = none := by decide +kernel

/-- A CHECK_CLEAR of port A is in flight. -/
def checking (s : State) : State := s.setPass (some (.checkClear (some (.a, 7#8))))
/-- The supply unit in another state. -/
def supplied (s : State) (x : SupplyState) : State := { s with supply := { s.supply with state := x } }
def resetting (s : State) : State := { s with supply := { s.supply with resetPending := some .b } }

/-- UndueChangesNothing, first part: each running timer in the last tick before its time, a save that waits for a line, and a
FULL_RESET whose response has not gone out. -/
theorem witness_UndueRunning :
    (let s := { site with
       tick := 9, lines := { site.lines with two := { LineRec.cold with state := .gap, gapStart := some 0 } } }
     (s.line .two).gapStart = some 0 ∧ s.supply.state = .mains ∧ s.tick * 10 < 0 * 10 + s.image.cycleGap) ∧
    (5999 < 0 + 6000 ∧ 2999 < 0 + (site.image.point 17).staleLimit * 100 ∧ (site.image.point 17).failSafe = true ∧
      99 < 0 + 100 ∧ 799 < 0 + site.image.truckLost * 100 ∧ 999 < 0 + site.image.supervision * 100 ∧ 11999 < 0 + 12000 ∧
      999 < site.monitor.periodFrom + site.monitor.period * 100 ∧ 99 < site.clock.from_ + 100) ∧
    (let s := { site with supply := { site.supply with state := .holdup, save := .quiet } }
     s.supply.state = .holdup ∧ s.supply.save = .quiet ∧ (s.line .two).state ≠ .stopped) ∧
    (let r : Response := { kind := 0x95#8, tag := 7#8, result := .done, detail := .none }
     let s := (resetting idle).updPort .b fun x => { x with held := [r] }
     s.supply.resetPending = some .b ∧ (s.port .b).held ≠ []) := by decide +kernel

/-- UndueChangesNothing, second part: each of the six cases. -/
theorem witness_UndueRequests : (Instr.read .a).row = some .read ∧ (Instr.read .a).port = some .a ∧
    (idle.port .a).state = .down ∧ ((onA idle []).port .a).requests = [] ∧ (checking idle).waiting .a = true ∧
    (supplied idle .dormant).supply.state = .dormant ∧ (resetting idle).supply.resetPending.isSome = true ∧
    ((asking idle 0x02 [0, 0, 1]).port .a).requests.head? = some (frameOf 0x02 [0, 0, 1]) ∧
    rowOf (frameOf 0x02 [0, 0, 1]) ≠ some .read := by decide +kernel

/-! A state in which every table holds something: zone 4 tripped in ALERT, a miner, a call on offer, truck 2 on 3 and 4. -/

def miner : RosterRec :=
  { tag := 0x1A2B01#24, state := .present, zone := 4, entry := 0, lastSeen := 0, unseen := 0, unseenFrom := 0, openCall := some 1 }

def call : Call :=
  { number := 1, tag := some 0x1A2B01#24, zone := 4, kind := .routine, state := .offered, raised := 0, order := 0, age := 0
    ageFrom := 0, offers := 1 }

def truck : TruckRec := { TruckRec.cold with state := .active, run := some { cur := 3, last := 4 }, demand := some .proceed }

def alarmOf (g : Grade) (a : AlarmState) : AlarmRec := { zone := 4, level := g, state := a, raised := 0, count := 1 }

def busy : State := (onA { site with
  roster := { Roster.cold with records := [miner] }
  calls := { CallQueue.cold with calls := [call], nextNumber := 2, nextOrder := 1 }
  trucks := upd site.trucks 2 fun _ => truck
  segments := updAll site.segments fun k g =>
    { g with gas := decide ((section4.segment k).zone = 4), holder := if k = 3 ∨ k = 4 then some 2 else none }
  zones := upd site.zones 4 fun _ => { level := .trip, latch := true, latchedAt := some 0 }
  alarms := [alarmOf .warn .activeUnack, alarmOf .trip (.activeAcked .a)]
  withdrawal := { state := .alert, since := 0, cause := some (.zoneTrip 4) } } []).judgeRefuges

def editing (p : PortId) (img : Image) (s : State) : State :=
  { s with settings := { s.settings with edit := some { holder := p, shadow := img, timer := 0 } } }

def calibrating (s : State) : State :=
  s.updLine .one fun l => { l with slot := some { point := 16, station := 2, channel := 1, start := 0, startTick := 0 } }

/-- `busy` over an Interlock Table whose entry 0 has this condition and this action. -/
def watching (kind : Nat) (args action : List Nat) : State :=
  { busy with settings := { busy.settings with
    active := some (section4.write 9 0 (([1, kind] ++ args ++ action ++ [0, 0, 0, 0]).map byte)) } }

theorem busy_store : busy.supply.store.data = none ∧ busy.supply.save = .none := by decide +kernel

theorem witness_roster : busy.RosterLaw := by
  refine ⟨by unfold rosterOk; decide +kernel, fun d h => ?_, fun d n h => ?_⟩
  · rw [busy_store.1] at h; exact nomatch h
  · rw [busy_store.2] at h; exact nomatch h

theorem busy_run2 : busy.trucks[2].run = some { cur := 3, last := 4 } ∧ busy.trucks[2].dir = .inbye := by decide +kernel

theorem witness_road : busy.RoadLaw := by
  have runs : ∀ t : TruckNo, t ≠ 2 → busy.trucks[t.1].run = none := by decide +kernel
  refine ⟨⟨fun t r h => ?_, by decide +kernel, by decide +kernel, ?_⟩, fun d h => ?_, fun d n h => ?_⟩
  · by_cases e : t = 2
    · subst e
      obtain ⟨h1, h2⟩ := busy_run2
      dsimp only at h ⊢
      rw [show busy.trucks[(2 : TruckNo).1] = busy.trucks[2] from rfl] at h ⊢
      rw [h1, Option.some.injEq] at h
      rw [h2, ← h]
      exact ⟨by decide, by decide⟩
    · exact absurd ((runs t e).symm.trans h) (by simp)
  · simp only [ex_some]
    decide +kernel
  · rw [busy_store.1] at h; exact nomatch h
  · rw [busy_store.2] at h; exact nomatch h

theorem witness_gas : busy.GasLaw := by
  unfold State.GasLaw
  decide +kernel

theorem witness_block : busy.BlockLaw := by
  refine ⟨?_, fun d h => ?_, fun d n h => ?_⟩
  · simp only [heldAtMost, ex_some, all_some]
    decide +kernel
  · rw [busy_store.1] at h; exact nomatch h
  · rw [busy_store.2] at h; exact nomatch h

theorem witness_alarm : busy.AlarmLaw := by
  refine ⟨fun z g => ?_, fun d h => ?_, fun d n h => ?_⟩
  · cases g <;> revert z <;> decide +kernel
  · rw [busy_store.1] at h; exact nomatch h
  · rw [busy_store.2] at h; exact nomatch h

theorem busy_open : ∀ c ∈ busy.calls.calls, ∀ p, c.state ≠ .taken p := by
  have h : ∀ c ∈ busy.calls.calls, c.state = .offered := by decide +kernel
  intro c hc p e
  exact nomatch (h c hc).symm.trans e

theorem witness_calls : busy.CallLaw :=
  ⟨by decide +kernel, by decide +kernel, by decide +kernel, by decide +kernel, by decide +kernel, by decide +kernel,
   by decide +kernel, by decide +kernel, by decide +kernel, fun c hc p h => absurd h (busy_open c hc p)⟩

theorem witness_muster : busy.MusterLaw := by
  refine ⟨by decide +kernel, ?_⟩
  simp only [ex_some]
  decide +kernel

/-- The invariants' hypotheses: `busy` meets each law, and a step from it answers a next state. -/
theorem witness_step : ∃ t, step busy = .next t := ⟨_, rfl⟩

theorem witness_holders : busy.HolderLaw :=
  ⟨by decide +kernel, by decide +kernel, by decide +kernel, by decide +kernel, by decide +kernel⟩

theorem witness_withdrawal : busy.WithdrawalLaw := by
  unfold State.WithdrawalLaw
  decide +kernel

/-- StartLaw, in RUNNING, and before it in the state after reset. -/
theorem witness_start : busy.StartLaw ∧ State.reset.supply.phase = .selfTest ∧ (State.reset.line .one).state = .idle ∧
    (State.reset.port .a).state = .down := by
  have h : busy.supply.phase = .running := by decide +kernel
  exact ⟨⟨fun e => absurd h e, fun e => absurd h e, fun e => absurd h e, fun e => by rw [h] at e; simp at e⟩, rfl, rfl, rfl⟩

/-- EditLaw, with an edit open. -/
theorem witness_edit : (editing .b section4 site).EditLaw ∧ ∃ t, step (editing .b section4 site) = .next t :=
  ⟨fun _ ln => by cases ln <;> rfl, _, rfl⟩

/-- OutputLawsKept: a state whose outputs have been re-judged, and its step. -/
theorem witness_OutputLawsKept : busy.settle.OutputLaws ∧ ∃ t, step busy.settle = .next t := by
  refine ⟨State.settle_outputLaws busy, ?_⟩
  unfold step
  split
  · next c rest h =>
    rw [show busy.settle.pending = busy.pending from (State.settle_same busy).same .pending (by decide)] at h
    exact nomatch h
  · exact ⟨_, rfl⟩

/-! Frames and readings. -/

/-- PortFrameRead: a body of the largest size, and an empty one. -/
theorem witness_PortFrameRead : (frameOf 0x11 (List.replicate 99 0)).body.length ≤ maxBody ∧
    (frameOf 0x16 []).body.length ≤ maxBody := by decide

/-- ReplyRead, first part: each kind, at the ends of its fields. -/
theorem witness_ReplyRead_fits :
    (ReplyBody.sensorHead (some (-32768)) (some 65534) [{ channel := 255, raw := 65535, ok := false }]).fits ∧
    (ReplyBody.sensorHead (some 32767) none []).fits ∧
    (ReplyBody.zoneReader (List.replicate 8 { tag := 0#24, press := .held })).fits ∧
    (ReplyBody.roadBeacon (List.replicate 2
      { identity := 65535, segment := 255, position := 65535, speed := 65535, dir := .outbye, request := 255 })).fits ∧
    (ReplyBody.refugePanel 255 true true).fits := by
  simp [ReplyBody.fits]

/-- ReplyRead, second part: a good reply of each kind. -/
theorem witness_ReplyRead_good :
    goodReply 61 .sensorHead (replyFrame 61 (.sensorHead none (some 1023) [{ channel := 3, raw := 4095, ok := true }]))
      = some (.sensorHead none (some 1023) [{ channel := 3, raw := 4095, ok := true }]) ∧
    goodReply 0 .zoneReader (replyFrame 0 (.zoneReader [{ tag := 0x1A2B01#24, press := .short }]))
      = some (.zoneReader [{ tag := 0x1A2B01#24, press := .short }]) ∧
    goodReply 30 .roadBeacon (replyFrame 30 (.roadBeacon [])) = some (.roadBeacon []) ∧
    goodReply 31 .refugePanel (replyFrame 31 (.refugePanel 3 true false)) = some (.refugePanel 3 true false) := by
  decide +kernel

/-- LineariseAndDrift: counts at and below zero, and a span of 0. -/
theorem witness_LineariseAndDrift :
    (section4.point 17).zero ≤ 205 ∧ 204 < (section4.point 17).zero ∧ (section4.point 0).span = 0 := by decide +kernel

/-- CompensateAndRise: a sample of 2.10, and points with and without an s to go on from. -/
theorem witness_CompensateAndRise :
    (sample 205 (seeded 120)).v1 = some 0 ∧ (sample 205 (seeded 120)).factor = some 1041 ∧
    PointRt.cold.s = none ∧ ({ seeded 120 with reseed := true }).reseed = true ∧
    (seeded 120).s = some 120 ∧ (seeded 120).reseed = false := by decide +kernel

/-- FactorWithinCells: the table of 2.10. -/
theorem witness_FactorWithinCells :
    let t := section4.comp .ch4
    t.ts.length = 8 ∧ t.cs.length = 4 ∧ t.ts.Pairwise (· < ·) ∧ t.cs.Pairwise (· < ·) ∧
    (∀ c ∈ t.cells, c.all (fun x => decide (1016 ≤ x ∧ x ≤ 1080)) = true) ∧ tableFactor t (some 54) 125 = some 1054 := by
  decide +kernel

/-- SmoothingApproaches: the ends of the weight, points with and without an s, and a run of equal v2 of 2.10. -/
theorem witness_SmoothingApproaches :
    1 ≤ 1 ∧ 1 ≤ 16 ∧ 16 ≤ 16 ∧ PointRt.cold.s = none ∧ (seeded 120).s = some 120 ∧ (seeded 120).reseed = false ∧
    1 ≤ (section4.point 17).weight ∧ (section4.point 17).weight ≤ 16 ∧ 120 ≤ (section4.point 17).kind.fullScale ∧
    (∀ x ∈ List.replicate 9 1230, (sample x (seeded 120)).v2 = some 129) ∧
    (129 - 120) + (120 - 129) ≤ (List.replicate 9 1230).length := by decide +kernel

/-- Point 17 with its threshold for WARN alone, of a rising or a falling kind. -/
def oneLevel (rising : Bool) : PointCfg :=
  { section4.point 17 with kind := if rising then .ch4 else .o2, trip := none, withdraw := none }

/-- DwellsCount: a level without a threshold; s at the threshold of 125, one unit off it, at the edge of the clear band and
one unit inside it, for both senses; the rises on each side of a min_rise in the dwell table of 3.1. -/
theorem witness_DwellsCount :
    (section4.dwellTable .ch4 = [(0, 8), (2, 4), (5, 2), (10, 1)] ∧ (none : Option Nat).getD 0 = 0 ∧ 1 < 2 ∧ 10 ≤ 10 ∧
      ∀ j e, 0 < j → (section4.dwellTable .ch4)[j]? = some e → 1 < e.1) ∧
    (∀ b, (oneLevel b).threshold .trip = none ∧ (oneLevel b).threshold .warn = some 125 ∧ (oneLevel b).hysteresis = 10 ∧
      (oneLevel b).clearDwell = 3 ∧ (oneLevel b).kind.rising = b) ∧
    (125 ≤ 125 ∧ ¬ 125 ≤ 124 ∧ ¬ 115 + 10 < 125 ∧ 114 + 10 < 125 ∧ ¬ 126 ≤ 125 ∧ ¬ 125 + 10 < 135 ∧ 125 + 10 < 136) ∧
    LevelStates.idle.of .warn = .idle ∧ ({ LevelStates.idle with warn := .qualified }).of .warn = .qualified ∧
    ({ LevelStates.idle with warn := .pending 1 8 }).of .warn = .pending 1 8 ∧
    ({ LevelStates.idle with warn := .clearing 2 }).of .warn = .clearing 2 := by
  have table : section4.dwellTable .ch4 = [(0, 8), (2, 4), (5, 2), (10, 1)] := by decide +kernel
  refine ⟨⟨table, rfl, by decide, by decide, fun j e h k => ?_⟩, by decide +kernel, by decide, rfl, rfl, rfl, rfl⟩
  obtain ⟨i, rfl⟩ := Nat.exists_eq_add_one_of_ne_zero (Nat.pos_iff_ne_zero.mp h)
  rw [table, List.getElem?_cons_succ] at k
  revert e
  exact fun e k => (by decide : ∀ e ∈ [((2 : Nat), (4 : Nat)), (5, 2), (10, 1)], 1 < e.1) e (List.mem_of_getElem? k)

/-- ZoneRecomputed: a zone whose level its points no longer give, with its latch set, and one at NONE. -/
theorem witness_ZoneRecomputed : busy.AlarmLawOf 4 ∧ busy.zones[4].latch = true ∧ busy.zoneLevelNow 4 ≠ busy.zones[4].level ∧
    busy.AlarmLawOf 5 ∧ ¬ Level.trip.rank ≤ busy.zones[5].level.rank :=
  ⟨witness_alarm.1 4, by decide +kernel, by decide +kernel, witness_alarm.1 5, by decide +kernel⟩

/-! Field lines. -/

def inGap (t : Tick) (x : SupplyState) : State :=
  { supplied site x with tick := t, lines := { site.lines with two := { LineRec.cold with state := .gap, gapStart := some 0 } } }

/-- GapEndBeginsPass: the gap's last tick on MAINS and on BATTERY. -/
theorem witness_GapEndBeginsPass :
    ((inGap 10 .mains).line .two).state = .gap ∧ ((inGap 10 .mains).line .two).gapStart = some 0 ∧
    (inGap 10 .mains).supply.state = .mains ∧ 0 * 10 + (inGap 10 .mains).image.cycleGap ≤ 10 * 10 ∧
    ((inGap 200 .battery).line .two).state = .gap ∧ (inGap 200 .battery).supply.state = .battery ∧
    0 * 10 + (inGap 200 .battery).image.batteryGap ≤ 200 * 10 := by decide +kernel

/-- Line 1 in GAP, on BATTERY, before the snapshot of `section4`, whose battery poll mask is full or holds no zone: its last
list named (1, 3), (1, 7) and (1, 30) alone; (1, 3) is LOST, (1, 7) was a head then, and (1, 30) has left the image. -/
def turning (masked : Bool) : State :=
  let rec' := fun (st : StationNo) (k : StationKind) => some (StationRec.cold k (section4.station st))
  let img := if masked then section4.write 11 0 ([3, 0, 0, 7, 208, 0, 0].map byte ++ defaultTiming.drop 7) else section4
  { supplied site .battery with
    tick := 200, settings := { site.settings with active := some img }
    lines := { site.lines with one := { LineRec.cold with
      state := .gap, gapStart := some 0
      pollList := [⟨2, .sensorHead⟩, ⟨6, .sensorHead⟩, ⟨29, .zoneReader⟩] } }
    stations := (((site.stations.set 2 ((rec' 2 .sensorHead).map fun r => { r with state := .lost, misses := 3 })).set 6
      ((rec' 6 .zoneReader).map fun r => { r with counted := .sensorHead, state := .online })).set 11
        (rec' 11 .roadBeacon)).set 29 (some { StationRec.cold .zoneReader (section4.station 6) with state := .lost }) }

/-- GapEndBeginsPass, the snapshot: a LOST station that stays, one of another kind, one new on the list and one that leaves,
without a CALL action; with an empty battery poll mask the LOST one becomes SKIPPED, and is reported. -/
theorem witness_Snapshot : (∀ b, ((turning b).line .one).state = .gap ∧ ((turning b).line .one).gapStart = some 0 ∧
      0 * 10 + (turning b).image.batteryGap ≤ (turning b).tick * 10 ∧ ∀ e, ((turning b).image.entry e).action = .nothing) ∧
    ((turning false).image.pollEntries .one).any (PollEntry.names 11) = true ∧
    ((turning false).line .one).pollList.any (PollEntry.names 11) = false ∧
    ((turning false).image.station 29).kind = none ∧ (turning false).stations[29].isSome = true ∧
    inMask (turning false).image.batteryMask 4 = true ∧ inMask (turning true).image.batteryMask 4 = false ∧
    ((turning false).stations[6].map fun r => decide (r.counted = r.kind)) = some false ∧
    (∀ b, (turning b).stations[2].map StationRec.state = some .lost) := by decide +kernel

/-- R12, R13: the records that the two snapshots leave: LOST or SKIPPED, reset, UNPOLLED, and none. -/
theorem test_snapshot : [false, true].map (fun b => after (exec (.gapEnd .one) (turning b)) fun t =>
      ([2, 6, 11, 29] : List StationNo).map fun st => t.stations[st.1].map fun r => (r.state, r.misses))
    = [some [some (.lost, 3), some (.unpolled, 0), some (.unpolled, 0), none],
       some [some (.skipped, 0), some (.skipped, 0), some (.skipped, 0), none]] := by decide +kernel

/-- Twelve lamp items at the reader (1, 7), and three trucks whose last beacon is the station (1, 12), in delivery order. -/
def waiting : State :=
  { site with
    stations := site.stations.set 6 (some { StationRec.cold .zoneReader (section4.station 6) with
      lamps := (List.range 12).map fun n => { tag := BitVec.ofNat 24 (n + 1), kind := .busy } })
    trucks := updAll site.trucks fun k r =>
      if k.1 ≤ 3 then { r with state := .active, lastBeacon := if k = 1 then some 5 else some 11, demand := some .stop }
      else r
    delivery := [1, 3, 2, 0] }

/-- GapEndBeginsPass, the requests: a calibration of the station and of another one, a lamp list of more than 8 items, more
than two trucks of the beacon of which one has no identity, and a panel with its refuge and without. -/
theorem witness_Requests :
    (∃ c, ((calibrating site).line (stationLine 2)).slot = some c ∧ c.station = 2 ∧ c.channel = 1) ∧
    (∃ r, waiting.stations[6] = some r ∧ r.lamps.length = 12) ∧
    ((waiting.delivery.filter fun k => decide (waiting.trucks[k.1].lastBeacon = some 11)).take 2 = [3, 2] ∧
      waiting.image.identity 3 = none ∧ waiting.image.identity 2 = some 501 ∧ waiting.trucks[2].demand = some .stop) ∧
    ((site.image.panel 0 = some 19 ∧ ∀ m : RefugeNo, m.1 < 0 → site.image.panel m ≠ some 19) ∧ ∀ n, idle.image.panel n ≠ some 19) := by
  refine ⟨⟨_, rfl, rfl, rfl⟩, ⟨_, rfl, rfl⟩, by decide +kernel,
    ⟨by decide +kernel, fun _ h => absurd h (by omega)⟩, by decide +kernel⟩

/-- The poll of (1, 3) in flight, with a station due to become SKIPPED or not. -/
def pollDue (due : Bool) : State :=
  (polling site).updLine .one fun l => { l with poll := l.poll.map fun p => { p with dueSkip := due } }

/-- GoodReplyHeard, for a station that is due to become SKIPPED and for one that is not. -/
theorem witness_GoodReplyHeard (due : Bool) : ∃ p b r, ((pollDue due).line .one).poll = some p ∧ p.dueSkip = due ∧
    goodReply p.station p.kind (head 1230) = some b ∧ (pollDue due).stations[p.station.1] = some r :=
  ⟨_, .sensorHead (some 54) none [{ channel := 2, raw := 1230, ok := true }], _, rfl, rfl, by cases due <;> decide +kernel, rfl⟩

/-- MissCounted: a bad reply; a station below the miss limit of 3, and one at 2 misses that becomes LOST. -/
theorem witness_MissCounted : ∃ p r, ((polling site).line .one).poll = some p ∧ (polling site).stations[p.station.1] = some r ∧
    goodReply p.station p.kind [] = none ∧ min (r.misses + 1) (polling site).image.missLimit < (polling site).image.missLimit ∧
    (site.image.point 17).station = some p.station ∧ ¬ min (2 + 1) site.image.missLimit < site.image.missLimit :=
  ⟨_, _, rfl, rfl, by decide +kernel, by decide +kernel, by decide +kernel, by decide +kernel⟩

/-- PollEndMovesOn: a poll in flight in each supply state that lets one end. -/
theorem witness_PollEndMovesOn (x : SupplyState) : ∃ p, ((supplied (polling site) x).line .one).poll = some p ∧
    (supplied (polling site) x).supply.state = x := ⟨_, rfl, rfl⟩

/-- GoodReplyHeard, MissCounted and PollEndMovesOn: a poll whose end begins the next pass at once, at a station that the
snapshot leaves as it is; with a gap of 100 ms it does not. -/
theorem witness_turnsOver : ∃ p, (lastPoll.line .one).poll = some p ∧ lastPoll.turnsOver .one p ∧
    lastPoll.staysListed p.station ∧ ((polling site).line .one).poll = some p ∧ ¬ (polling site).turnsOver .one p := by
  have passed : ∀ e ∈ (lastPoll.line .one).pollList.tail, lastPoll.passedOver e.station = true ∧ e.station ≠ 2 := by
    decide +kernel
  refine ⟨_, rfl, ⟨rfl, by decide +kernel, fun j e h k => ?_⟩, ⟨by decide +kernel, by decide +kernel, fun r h => ?_⟩, rfl,
    fun h => absurd h.2.1 (by decide +kernel)⟩
  · obtain ⟨i, rfl⟩ := Nat.exists_eq_add_one_of_ne_zero (n := j) (by rintro rfl; exact absurd h (by decide))
    rw [← List.getElem?_tail] at k
    obtain ⟨h1, h2⟩ := passed e (List.mem_of_getElem? k)
    unfold State.passedAfter
    rw [if_neg h2]
    exact h1
  · obtain rfl : r = StationRec.cold .sensorHead (section4.station 2) := by
      simpa [lastPoll, polling] using h.symm
    exact ⟨rfl, by decide +kernel⟩

/-- GoodReplyHeard, the delivery: a poll that carries two demands. -/
theorem witness_deliver : ([{ truck := 2, identity := 501, demand := { kind := .stop, cap := 0, runEnd := none } },
    { truck := 15, identity := 1, demand := { kind := .proceed, cap := 200, runEnd := some 4 } }].map
      CarriedDemand.truck).Nodup := by decide

/-- GoodReplyHeard, channel reports and calibration results: an unmapped channel, a point that is calibrating and one that
is not, an entry that watches it, and a calibration in flight at this station. -/
theorem witness_contents :
    site.image.pointAt 2 1 = none ∧ site.image.pointAt 2 2 = some 17 ∧ site.points[17].flags.cal = false ∧
    (let s := site.updPoint 17 fun p => { p with flags := { p.flags with cal := true } }
     s.points[17].flags.cal = true) ∧
    (let img := (watching 2 [17, 0, 180, 0, 0, 0] [6, 0, 0, 0]).image
     (img.entry 0).enabled = true ∧ (img.entry 0).condition = .pointBeyond 17 180 true) ∧
    (site.line .one).slot = none ∧
    ((calibrating site).line (stationLine 2)).slot.map Calibration.station = some 2 ∧
    (site.image.points.getD 17 []).length = 24 := by decide +kernel

/-- GoodReplyHeard, what a reply hands on: a reader with a record, tags that name a miner and none, and a station that is
the panel of a refuge and one that is not. -/
theorem witness_TakeContent : (∃ r, waiting.stations[6] = some r ∧ r.subtype = .ordinary ∧ r.zone = 4) ∧
    validTag 0x1A2B01#24 = true ∧ validTag 0xFFFFFF#24 = false ∧
    (site.image.panel 0 = some 19 ∧ ∀ m : RefugeNo, m.1 < 0 → site.image.panel m ≠ some 19) ∧
    ∀ n, site.image.panel n ≠ some 2 := by
  refine ⟨⟨_, rfl, by decide +kernel, by decide +kernel⟩, by decide, by decide, ⟨by decide +kernel, fun _ h => absurd h (by omega)⟩,
    by decide +kernel⟩

/-- R138: a disabled STATION_LOST entry keeps its absent station. -/
theorem test_absent_station :
    let s := { site with settings := { site.settings with
      active := some (section4.write 9 0 ([0, 3, 0xFF, 0xFF, 0, 0, 0, 0, 6, 0, 0, 0, 0, 0, 0, 0].map byte)) } }
    s.image.firstFailure = none ∧ s.readEntry 0 =
      found (.interlock { enabled := false, condition := .stationLost none, action := .notice } EntryRt.cold) := by decide +kernel

/-- GoodReplyHeard, a panel's reply: each door, and an entry that watches for a sealed one. -/
theorem witness_panel : (site.refuges[0].door = .unknown ∧ site.supply.phase = .running) ∧
    (let s := watching 4 [0, 3, 0, 0, 0, 0] [6, 0, 0, 0]
     (s.image.entry 0).enabled = true ∧ (s.image.entry 0).condition = .doorIs 0 .isSealed ∧
     s.entries[0].rebuilding = false ∧ s.refuges[0].door ≠ .isSealed) := by decide +kernel

/-- StaleLimitTrips: 30 s after point 17 became STALE. -/
theorem witness_StaleLimitTrips :
    let s := { site with
      tick := 3000, points := upd site.points 17 fun p => { p with flags := { p.flags with stale := true }, staleTick := some 0 } }
    (s.image.point 17).station.isSome = true ∧ (s.image.point 17).failSafe = true ∧ s.points[17].flags.stale = true ∧
    s.points[17].staleTrip = false ∧ s.points[17].staleTick = some 0 ∧
    0 + (s.image.point 17).staleLimit * 100 ≤ s.tick ∧ s.zones[4].level.rank < Level.trip.rank := by decide +kernel

def online (s : State) : State :=
  { s with stations := s.stations.set 2 (some { StationRec.cold .sensorHead (section4.station 2) with state := .online }) }

/-- CalibrationStartsAndTimesOut: each case of CAL_START. -/
theorem witness_CalStart :
    (asking site 0x0F [96]).Serves .a .calStart (frameOf 0x0F [96]) ∧
    (asking site 0x0F [95]).Serves .a .calStart (frameOf 0x0F [95]) ∧ (site.image.point 95).station = none ∧
    (asking site 0x0F [17]).Serves .a .calStart (frameOf 0x0F [17]) ∧ (site.image.point 17).station = some 2 ∧
    site.stations[2].map StationRec.state ≠ some .online ∧ (online site).stations[2].map StationRec.state = some .online ∧
    Level.trip.rank ≤ ({ LevelStates.idle with trip := .qualified }).level.rank ∧
    ¬ Level.trip.rank ≤ (online site).points[17].levels.level.rank ∧
    ((calibrating (online site)).line (stationLine 2)).slot.isSome = true ∧
    ¬ ((online site).line (stationLine 2)).slot.isSome = true ∧
    (editing .b section4 (online site)).settings.edit.isSome = true ∧ (online site).settings.edit = none :=
  ⟨serves rfl rfl rfl, serves rfl rfl rfl, by decide +kernel, serves rfl rfl rfl, by decide +kernel, by decide +kernel,
   by decide +kernel, by decide +kernel, by decide +kernel, by decide +kernel, by decide +kernel, rfl, rfl⟩

/-- CalibrationStartsAndTimesOut: 60 s after its start. -/
theorem witness_CalTimeout : ∃ c, ((calibrating { site with tick := 6000 }).line .one).slot = some c ∧
    c.startTick + 6000 ≤ (calibrating { site with tick := 6000 }).tick := ⟨_, rfl, by decide⟩

/-! Other timers. -/

def withMiner (r : RosterRec) (t : Tick) : State := { busy with tick := t, roster := { busy.roster with records := [r] } }

/-- UnseenAdvances: a PRESENT record one second old, one at the missing limit, and an EXITED one at its linger. -/
theorem witness_UnseenAdvances :
    ∀ r ∈ [miner, { miner with unseen := 599 }, { miner with state := .exited, unseen := 299 }],
      ((withMiner r 100).roster.records.map RosterRec.tag).Nodup ∧ (withMiner r 100).miner miner.tag = some r ∧
      (withMiner r 100).supply.phase = .running ∧ (withMiner r 100).supply.state = .mains ∧
      r.unseenFrom + 100 ≤ (withMiner r 100).tick := by decide +kernel

/-- CallAges: a second after the call was raised. -/
theorem witness_CallAges : (({ busy with tick := 100 }).calls.calls.map Call.number).Nodup ∧
    ({ busy with tick := 100 }).call 1 = some call ∧ busy.supply.state = .mains ∧ call.ageFrom + 100 ≤ 100 := by decide +kernel

/-- TruckLost: 8 s after the last report, without an entry that acts on it. -/
theorem witness_TruckLost : ({ busy with tick := 800 }).trucks[2].state = .active ∧
    ({ busy with tick := 800 }).trucks[2].heardTick + ({ busy with tick := 800 }).image.truckLost * 100 ≤ 800 ∧
    ∀ e, (busy.image.entry e).condition ≠ .truckLostAny := by
  decide +kernel

/-- TimersAct: 120 s after the last write; 10 s into RUNNING; the 100th tick. -/
theorem witness_TimersAct :
    (editing .a section4 { site with tick := 12000 }).settings.edit = some { holder := .a, shadow := section4, timer := 0 } ∧
    0 + 12000 ≤ (editing .a section4 { site with tick := 12000 }).tick ∧ site.supply.phase = .running ∧
    site.monitor.periodFrom + site.monitor.period * 100 ≤ 1000 ∧ site.clock.stopped = false ∧ site.clock.from_ + 100 ≤ 100 :=
  ⟨rfl, by decide, rfl, by decide, rfl, by decide⟩

/-! Sightings, presses and interlock entries. -/

def fullRecords (x : MinerState) : List RosterRec :=
  (List.range 256).map fun i => { miner with
    tag := BitVec.ofNat 24 (i + 1), state := if i = 7 then x else .present, openCall := none }

def fullRoster (x : MinerState) : State := { busy with roster := { busy.roster with records := fullRecords x } }.judgeRefuges

theorem full_ok (x : MinerState) : rosterOk (fullRecords x) := by
  refine ⟨by simp [fullRecords], ?_, ?_⟩
  · simp only [fullRecords, List.map_map]
    refine List.pairwise_map.2 (List.nodup_range.imp_of_mem fun {a b} ha hb ne e => ne ?_)
    have := congrArg BitVec.toNat e
    simp only [Function.comp_apply, BitVec.toNat_ofNat] at this
    rw [List.mem_range] at ha hb
    omega
  · have tags : ∀ i ∈ List.range 256, validTag (BitVec.ofNat 24 (i + 1)) = true := by decide +kernel
    intro r hr
    obtain ⟨i, hi, rfl⟩ := List.mem_map.1 hr
    exact tags i hi

/-- SightingsAndPresses, a sighting: a tag of no miner, a known and a new one, and a roster that is full with and without an
EXITED record. -/
theorem witness_Sightings : rosterOk busy.roster.records ∧ busy.MusterLaw ∧ (busy.miner 0x1A2B01#24).isSome = true ∧
    busy.miner 0x1A2B02#24 = none ∧ busy.roster.records.length < 256 ∧ (∀ e w, (busy.image.entry e).action ≠ .call w) ∧
    (∀ x, (fullRoster x).roster.records = fullRecords x ∧ rosterOk (fullRecords x) ∧ (fullRecords x).length = 256) ∧
    ∀ x ∈ [MinerState.exited, .present],
      (fullRecords x).any (fun r => decide (r.state = .exited)) = decide (x = .exited) := by
  have none_calls : ∀ e, (busy.image.entry e).action = .nothing := by decide +kernel
  refine ⟨witness_roster.1, witness_muster, by decide +kernel, by decide +kernel, by decide +kernel, fun e w h => ?_,
    fun x => ⟨rfl, full_ok x, by simp [fullRecords]⟩, by decide +kernel⟩
  · have := none_calls e
    exact nomatch h.symm.trans this

/-- A call queue of 32: four URGENT calls on offer, and 28 of a kind that wait. -/
def fullCalls (k : CallKind) : State :=
  { busy with
    roster := { busy.roster with records := [{ miner with openCall := none }] }
    calls := { CallQueue.cold with
      calls := (List.range 32).map fun i => { call with
        number := i + 1, tag := none, order := i, kind := if i < 4 then .urgent else k
        state := if i < 4 then .offered else .waiting }
      nextNumber := 33, nextOrder := 32 } }

theorem full_law : (fullCalls .routine).CallLaw := by
  have none_taken : ∀ c ∈ (fullCalls .routine).calls.calls, c.state = .offered ∨ c.state = .waiting := by decide +kernel
  refine ⟨by decide +kernel, by decide +kernel, by decide +kernel, by decide +kernel, by decide +kernel, by decide +kernel,
    by decide +kernel, by decide +kernel, by decide +kernel, fun c hc p h => ?_⟩
  rcases none_taken c hc with e | e <;> exact nomatch e.symm.trans h

/-- SightingsAndPresses, a new call: a queue with room, and a full one with and without a WAITING call of a lower kind. -/
theorem witness_NewCalls : busy.CallLaw ∧ busy.openCall 0x1A2B02#24 = none ∧ busy.calls.calls.length < 32 ∧
    busy.call busy.calls.nextNumber = none ∧ (fullCalls .routine).CallLaw ∧
    (fullCalls .routine).openCall 0x1A2B01#24 = none ∧ (fullCalls .routine).calls.calls.length = 32 ∧
    (∃ c ∈ (fullCalls .routine).calls.calls, c.state = .waiting ∧ c.kind.rank < CallKind.urgent.rank) ∧
    ∀ c ∈ (fullCalls .routine).calls.calls, ¬ c.kind.rank < CallKind.routine.rank :=
  ⟨witness_calls, by decide +kernel, by decide +kernel, by decide +kernel, full_law, by decide +kernel, by decide +kernel,
   by decide +kernel, by decide +kernel⟩

/-- `busy` with its call taken by port A. -/
def takenCall : State := { busy with calls := { busy.calls with calls := [{ call with state := .taken .a }] } }

theorem taken_law : takenCall.CallLaw := by
  have h : ∀ c ∈ takenCall.calls.calls, c.state = .taken .a := by decide +kernel
  refine ⟨by decide +kernel, by decide +kernel, by decide +kernel, by decide +kernel, by decide +kernel, by decide +kernel,
    by decide +kernel, by decide +kernel, by decide +kernel, fun c hc p e => ?_⟩
  obtain rfl := CallState.taken.inj ((h c hc).symm.trans e)
  decide +kernel

/-- SightingsAndPresses, a press upon the tag's open call: one on offer and one that is taken, of kind ROUTINE. -/
theorem witness_Presses : busy.CallLaw ∧ busy.openCall 0x1A2B01#24 = some call ∧ takenCall.CallLaw ∧
    takenCall.openCall 0x1A2B01#24 = some { call with state := .taken .a } ∧ Press.held ≠ .none ∧
    call.kind.rank < CallKind.emergency.rank ∧ ¬ call.kind.rank < CallKind.routine.rank ∧
    busy.ItemZone 0x1A2B01#24 0 4 :=
  ⟨witness_calls, by decide +kernel, taken_law, by decide +kernel, by decide, by decide, by decide, by
    unfold State.ItemZone
    simp only [all_some]
    decide +kernel⟩

/-- The same state with entry 0 ACTIVE, standing among the holders of its action's trip outputs. -/
def activated (s : State) : State :=
  { s with
    entries := upd s.entries 0 fun e => { e with active := true }
    trips := updAll s.trips fun k o => { o with holders := o.holders.set 0 (inMask 8 k.1) } }

theorem quiet_holders {s : State} (he : ∀ n : EntryNo, s.entries[n.1] = EntryRt.cold)
    (ht : ∀ (k : OutNo) (n : EntryNo), s.trips[k.1].holders[n.1] = false)
    (hs : ∀ (k : OutNo) (n : EntryNo), s.signals[k.1].holders[n.1] = false)
    (hg : ∀ (k : SegNo) (n : EntryNo), s.segments[k.1].interlock[n.1] = false) : s.HolderLaw where
  enabled n e := by rw [he n] at e; exact nomatch e
  trips k n := by rw [ht, he]; rfl
  signals k n := by rw [hs, he]; rfl
  segments k n := by rw [hg, he]; rfl
  rebuilt n := by rw [he]; rfl

/-- EntriesEvaluated: an entry whose condition holds while it is not ACTIVE, with each action but a RAISE, and with a RAISE
above the present state; one that is ACTIVE when its condition has ceased; and no entry that raises. -/
theorem witness_EntriesEvaluated :
    (∀ a ∈ [[3, 8, 0, 0], [1, 4, 0, 0], [2, 0, 0, 1], [5, 4, 0, 0], [6, 0, 0, 0], [4, 2, 0, 0]],
      let s := watching 1 [0, 16, 2, 0, 0, 0] a
      s.HolderLaw ∧ s.MusterLaw ∧ (s.image.entry 0).enabled = true ∧ s.entries[0].active = false ∧
      s.conditionHolds (s.image.entry 0).condition = true) ∧
    (watching 1 [0, 16, 2, 0, 0, 0] [4, 2, 0, 0]).withdrawal.state.rank < WState.withdraw.rank ∧
    (activated (watching 1 [0, 32, 1, 0, 0, 0] [3, 8, 0, 0])).HolderLaw ∧
    (let s := activated (watching 1 [0, 32, 1, 0, 0, 0] [3, 8, 0, 0])
     s.entries[0].active = true ∧ s.conditionHolds (s.image.entry 0).condition = false) := by
  have cold : ∀ n : EntryNo, busy.entries[n.1] = EntryRt.cold := by decide +kernel
  have trips : ∀ (k : OutNo) (n : EntryNo), busy.trips[k.1].holders[n.1] = false := by decide +kernel
  have signals : ∀ (k : OutNo) (n : EntryNo), busy.signals[k.1].holders[n.1] = false := by decide +kernel
  have segments : ∀ (k : SegNo) (n : EntryNo), busy.segments[k.1].interlock[n.1] = false := by decide +kernel
  refine ⟨fun a ha => ⟨quiet_holders cold trips signals segments, ⟨?_, ?_⟩, ?_⟩, by decide +kernel,
    ⟨by decide +kernel, by decide +kernel, by decide +kernel, by decide +kernel, by decide +kernel⟩, by decide +kernel⟩
  · exact witness_muster.1
  · simp only [ex_some]
    revert a
    decide +kernel
  · revert a; decide +kernel

/-! Client ports. -/

def fourWaiting : List Frame := List.replicate 4 (frameOf 0x16 [])

/-- FrameJoinsQueue: a DOWN port, an UP port with 3 and with 4 requests, and one in HOLDUP. -/
theorem witness_FrameJoinsQueue :
    idle.supply.phase = .running ∧ idle.supply.state ≠ .dormant ∧ idle.supply.resetPending = none ∧
    (frameOf 0x16 []).body.length ≤ maxBody ∧
    (idle.port .a).assembly ++ portFrame (frameOf 0x16 []) = portFrame (frameOf 0x16 []) ∧
    ((onA idle fourWaiting.tail).port .a).requests.length = 3 ∧ ((onA idle fourWaiting).port .a).requests.length = 4 ∧
    (supplied (onA idle []) .holdup).supply.state ≠ .dormant ∧ ((supplied (onA idle []) .holdup).port .a).state = .up := by
  decide +kernel

/-- BadFramesCounted: a length past the largest body, and a wrong CRC. -/
theorem witness_BadFrames :
    let long := (idle.port .a).assembly ++ [0x7E#8, 0, 100]
    let wrong := (idle.port .a).assembly ++ [0x7E#8, 0, 0, 0x16, 1, 0, 0]
    long.head? = some marker ∧ marker ∉ long.tail ∧ 3 ≤ long.length ∧ maxBody < be16 long 1 ∧
    wrong.head? = some marker ∧ marker ∉ wrong.tail ∧ be16 wrong 1 ≤ maxBody ∧ wrong.length = be16 wrong 1 + 7 ∧
    crc16 ((wrong.drop 1).take (4 + be16 wrong 1)) ≠ BitVec.ofNat 16 (be16 wrong (5 + be16 wrong 1)) := by decide +kernel

/-- BadFramesCounted: a served port whose queue begins with a frame of a row. -/
theorem witness_NothingToAnswer : (asking idle 0x16 []).serving .a = true ∧
    ((asking idle 0x16 []).port .a).requests.head? = some (frameOf 0x16 []) ∧
    ∀ q f, (asking idle 0x16 []).serving q = true → ((asking idle 0x16 []).port q).requests.head? = some f → rowOf f ≠ none := by
  refine ⟨by decide +kernel, rfl, fun q f h k => ?_⟩
  cases q
  · obtain rfl : frameOf 0x16 [] = f := Option.some.inj k
    decide
  all_goals exact absurd h (by decide +kernel)

/-- BadFramesCounted: a byte gap after a start marker. -/
theorem witness_ByteGap : ((idle.setAssembly .a [0x7E#8]).port .a).assembly ≠ [] ∧
    (idle.setAssembly .a [0x7E#8]).supply.phase = .running ∧ ((idle.setAssembly .a [0x7E#8]).port .a).bad < max16 := by decide

/-- SupervisionExpires: 10 s after the last frame of port A, which is the last trunk port. -/
theorem witness_SupervisionExpires :
    let s := { onA site [] with tick := 1000 }
    (s.port .a).state = .up ∧ s.supply.state = .mains ∧ (s.port .a).supervised + s.image.supervision * 100 ≤ s.tick ∧
    s.isolated = false := by decide +kernel

def noticed (n : Nat) : State :=
  (onA idle []).updPort .a fun r => { r with notices := List.replicate n (0, .settingsCleared) }

/-- NoticesQueueAndLeave, first part: a DOWN port, and queues of 15 and 16. -/
theorem witness_Notices : (idle.port .a).state = .down ∧ ((noticed 15).port .a).state = .up ∧
    ((noticed 15).port .a).notices.length < 16 ∧ 16 ≤ ((noticed 16).port .a).notices.length := by decide

/-- NoticesQueueAndLeave, second part: a settled state with a notice in the queue. -/
theorem witness_NoticeLeaves : (noticed 1).settle.OutputLaws ∧ (noticed 1).settle.supply.state ≠ .dormant ∧
    ∃ n rest, ((noticed 1).settle.port .a).notices = n :: rest := by
  refine ⟨State.settle_outputLaws _, ?_, ?_⟩
  · rw [show (noticed 1).settle.supply = (noticed 1).supply from (State.settle_same _).same .supply (by decide)]
    decide
  · obtain ⟨l, h⟩ := (State.settle_extends (noticed 1)).notices .a
    exact ⟨_, _, h.symm⟩

/-- GenericAnswers, first part: frames of the kinds 0x00 and 0x17 that arrive at an UP port without a request. -/
theorem witness_NoRequestKind : (onA idle []).settle.OutputLaws ∧ ((onA idle []).settle.port .a).state = .up ∧
    ((onA idle []).settle.port .a).requests = [] ∧ (onA idle []).settle.waiting .a = false ∧
    (onA idle []).settle.supply = idle.supply ∧ ((onA idle []).settle.port .a).assembly = [] ∧
    (∀ k ∈ [0x00, 0x17], (frameOf k []).body.length ≤ maxBody ∧
      ((frameOf k []).kind.toNat = 0 ∨ 0x16 < (frameOf k []).kind.toNat)) :=
  ⟨State.settle_outputLaws _, (settle_up _ _).trans rfl, (settle_requests _ _).trans rfl, (settle_waiting _ _).trans rfl,
   settle_supply _, (settle_assembly _ _).trans rfl,
   by decide⟩

/-- GenericAnswers, second part: a body of the wrong size, a request before the first commit, and one in HOLDUP. -/
theorem witness_GenericAnswers :
    rowOf (frameOf 0x0A []) = some .declare ∧ bodySizeOk (frameOf 0x0A []) = false ∧ servedUnconfigured (frameOf 0x16 []) = false ∧
    (∀ s ∈ [onA idle [frameOf 0x16 []], onA { idle with supply := { Supply.cold with phase := .unconfigured } } [frameOf 0x16 []],
        supplied (onA idle [frameOf 0x16 []]) .holdup],
      s.settle.OutputLaws ∧ (s.settle.port .a).state = .up ∧ (s.settle.port .a).requests.head? = some (frameOf 0x16 []) ∧
      s.settle.waiting .a = false ∧ s.settle.supply.state ≠ .dormant ∧ s.settle.supply.resetPending = none) := by
  refine ⟨by decide, by decide, by decide, fun s hs => ?_⟩
  rw [settle_up, settle_requests, settle_waiting, settle_supply]
  refine ⟨State.settle_outputLaws s, ?_⟩
  revert s
  decide +kernel

/-! Requests. -/

theorem busy_calm : calm busy = true := by decide +kernel

/-- ReadingRequests, over outputs that have been judged. -/
theorem witness_ReadingRequests :
    (let s := (asking busy 0x01 [8, 0, 0]).settle
     s.OutputLaws ∧ s.Serves .a .read (frameOf 0x01 [8, 0, 0])) ∧
    (∀ b ∈ [[0x1A, 0x2B, 0x01], [0, 0, 0]],
      let s := (asking busy 0x02 b).settle
      s.OutputLaws ∧ s.Serves .a .findTag (frameOf 0x02 b)) ∧
    (let s := (asking busy 0x03 [0, 0, 0, 1]).settle
     s.OutputLaws ∧ s.Serves .a .setTime (frameOf 0x03 [0, 0, 0, 1])) ∧
    (let s := (asking busy 0x16 []).settle
     s.OutputLaws ∧ s.Serves .a .keepalive (frameOf 0x16 [])) ∧
    tagAt (frameOf 0x02 [0x1A, 0x2B, 0x01]).body 0 = miner.tag ∧ busy.roster.records[0]? = some miner ∧
    tagAt (frameOf 0x02 [0, 0, 0]).body 0 = 0x000000#24 := by
  refine ⟨serves_settled (serves rfl rfl busy_calm), fun b hb => serves_settled (serves ?_ ?_ busy_calm),
    serves_settled (serves rfl rfl busy_calm), serves_settled (serves rfl rfl busy_calm), by decide, by decide +kernel,
    by decide⟩
  all_goals revert b; decide

/-- ReadingRequests, the tables: a record of each list, a station and a point that are in use and ones that are not, a
station that the image does not name and that has a record all the same, a truck with its identity and one without, and the places past the end of a list. -/
theorem witness_ReadTables : busy.alarms[0]? = some (alarmOf .warn .activeUnack) ∧ busy.alarms.length ≤ 2 ∧
    busy.roster.records[0]? = some miner ∧ busy.roster.records.length ≤ 1 ∧ busy.calls.calls[0]? = some call ∧
    busy.calls.calls.length ≤ 1 ∧ busy.image.identity 2 ≠ none ∧ busy.image.identity 15 = none ∧
    (busy.image.point 17).station ≠ none ∧ (busy.image.point 95).station = none ∧
    (polling site).stations[2].isSome = true ∧ ((polling site).image.station 2).kind ≠ none ∧
    (polling site).stations[61] = none ∧ (polling idle).stations[2].isSome = true ∧
    ((polling idle).image.station 2).kind = none ∧ (61 : StationNo).1 = (2 - 1) * 31 + 31 - 1 := by
  decide +kernel

/-- AckAlarm: each case, a cleared record among them. -/
theorem witness_AckAlarm :
    (asking busy 0x04 [16, 1]).Serves .a .ackAlarm (frameOf 0x04 [16, 1]) ∧
    (asking busy 0x04 [4, 0]).Serves .a .ackAlarm (frameOf 0x04 [4, 0]) ∧
    (asking busy 0x04 [4, 4]).Serves .a .ackAlarm (frameOf 0x04 [4, 4]) ∧
    (asking busy 0x04 [15, 3]).Serves .a .ackAlarm (frameOf 0x04 [15, 3]) ∧ busy.alarm 15 .withdraw = none ∧
    (asking busy 0x04 [4, 1]).Serves .a .ackAlarm (frameOf 0x04 [4, 1]) ∧
    busy.alarm 4 .warn = some (alarmOf .warn .activeUnack) ∧ busy.alarm 4 .trip = some (alarmOf .trip (.activeAcked .a)) ∧
    ({ busy with alarms := [alarmOf .warn .clearedUnack] }).alarm 4 .warn = some (alarmOf .warn .clearedUnack) :=
  ⟨serves rfl rfl busy_calm, serves rfl rfl busy_calm, serves rfl rfl busy_calm, serves rfl rfl busy_calm,
   by decide +kernel, serves rfl rfl busy_calm, by decide +kernel, by decide +kernel, by decide +kernel⟩

/-- Zone 4 back at NONE with its latch kept. -/
def lowered : State := busy.updZone 4 fun r => { r with level := .none }

/-- ResetTrips: each case of a zone, and ALL with and without a latch that is kept. -/
theorem witness_ResetTrips :
    (asking busy 0x05 [0, 16]).Serves .a .resetTripZone (frameOf 0x05 [0, 16]) ∧
    (asking busy 0x05 [0, 15]).Serves .a .resetTripZone (frameOf 0x05 [0, 15]) ∧ busy.zones[15].latch = false ∧
    (asking busy 0x05 [0, 4]).Serves .a .resetTripZone (frameOf 0x05 [0, 4]) ∧ busy.zones[4].latch = true ∧
    Level.trip.rank ≤ busy.zones[4].level.rank ∧ lowered.zones[4].latch = true ∧
    lowered.zones[4].level.rank < Level.trip.rank ∧ (asking busy 0x05 [1, 0]).Serves .a .resetTripAll (frameOf 0x05 [1, 0]) ∧
    ((List.finRange 16).filter fun z => lowered.zones[z.1].latch && decide (Level.trip.rank ≤ lowered.zones[z.1].level.rank)) = [] ∧
    ((List.finRange 16).filter fun z => busy.zones[z.1].latch && decide (Level.trip.rank ≤ busy.zones[z.1].level.rank)) ≠ [] :=
  ⟨serves rfl rfl busy_calm, serves rfl rfl busy_calm, by decide +kernel, serves rfl rfl busy_calm, by decide +kernel,
   by decide +kernel, by decide +kernel, by decide +kernel, serves rfl rfl busy_calm, by decide +kernel, by decide +kernel⟩

/-- ForceAndUnforce: the last output and one past it, and a forced output. -/
theorem witness_ForceAndUnforce :
    (asking busy 0x06 [7]).Serves .a .forceTrip (frameOf 0x06 [7]) ∧
    (asking busy 0x06 [8]).Serves .a .forceTrip (frameOf 0x06 [8]) ∧
    (asking busy 0x05 [2, 7]).Serves .a .resetTripOutput (frameOf 0x05 [2, 7]) ∧
    byteAt (frameOf 0x05 [2, 7]).body 1 = 7 ∧ busy.trips[7].forced = false :=
  ⟨serves rfl rfl busy_calm, serves rfl rfl busy_calm, serves rfl rfl busy_calm, by decide, by decide +kernel⟩

/-- Five calls without tags: the first in the given state, three on offer, and the last WAITING. -/
def fiveCalls (first : CallState) (last : CallState) : State :=
  { busy with
    ports := { busy.ports with b := { PortRec.cold with state := .up } }
    calls := { CallQueue.cold with
    calls := (List.range 5).map fun i => { call with
      number := i + 1, tag := none, order := i, state := if i = 0 then first else if i = 4 then last else .offered }
    nextNumber := 6, nextOrder := 5 } }

theorem five_law : ∀ x ∈ [(CallState.offered, CallState.waiting), (.taken .a, .offered), (.taken .b, .offered)],
    (asking (fiveCalls x.1 x.2) 0x07 [1]).CallLaw := by
  intro x hx
  have h : ∀ x ∈ [(CallState.offered, CallState.waiting), (.taken .a, .offered), (.taken .b, .offered)],
      let s := asking (fiveCalls x.1 x.2) 0x07 [1]
      s.calls.calls.length ≤ 32 ∧ (s.calls.calls.map Call.number).Nodup ∧ (∀ c ∈ s.calls.calls, 1 ≤ c.number ∧ c.number ≤ 255) ∧
      (1 ≤ s.calls.nextNumber ∧ s.calls.nextNumber ≤ 255) ∧ (s.calls.calls.Pairwise fun a b => a.before b = true) ∧
      (s.calls.calls.map Call.order).Nodup ∧ (∀ c ∈ s.calls.calls, c.order < s.calls.nextOrder) ∧
      (s.calls.calls.Pairwise fun a b => a.tag = none ∨ a.tag ≠ b.tag) ∧
      (∀ c ∈ s.calls.calls, c.state = .offered ↔ c.number ∈ s.window) ∧
      (∀ c ∈ s.calls.calls, c.state ≠ .taken .l) ∧ (s.port .a).state = .up ∧ (s.port .b).state = .up := by decide +kernel
  obtain ⟨h1, h2, h3, h4, h5, h6, h7, h8, h9, h10, h11, h12⟩ := h x hx
  refine ⟨h1, h2, h3, h4, h5, h6, h7, h8, h9, fun c hc p e => ?_⟩
  cases p with
  | a => exact h11
  | b => exact h12
  | l => exact absurd e (h10 c hc)

/-- TakeCall: a call on offer, one taken by another port, and a WAITING one outside the window. -/
theorem witness_TakeCall :
    (asking (fiveCalls .offered .waiting) 0x07 [1]).Serves .a .takeCall (frameOf 0x07 [1]) ∧
    (asking (fiveCalls .offered .waiting) 0x07 [1]).CallLaw ∧ byteAt (frameOf 0x07 [1]).body 0 ≠ 0 ∧
    ((fiveCalls .offered .waiting).call 1).map Call.state = some .offered ∧
    ((fiveCalls .offered .waiting).call 5).map Call.state = some .waiting ∧
    (asking (fiveCalls (.taken .b) .offered) 0x07 [1]).CallLaw ∧
    ((fiveCalls (.taken .b) .offered).call 1).map Call.state = some (.taken .b) :=
  ⟨serves rfl rfl busy_calm, five_law (.offered, .waiting) (by simp), by decide, by decide +kernel, by decide +kernel,
   five_law (.taken .b, .offered) (by simp), by decide +kernel⟩

/-- A lamp list of 16 items, of which the second asks for a busy lamp, or none does. -/
def sixteenLamps (busyToo : Bool) : List LampItem :=
  (List.range 16).map fun i =>
    { tag := BitVec.ofNat 24 (i + 1), kind := if i = 1 ∧ busyToo = true then .busy else .acknowledged }

/-- TakeCall, the lamp lists: a full list with and without a BUSY item, a tag that is on it and one that is not. -/
theorem witness_LampLists : (∀ b, (sixteenLamps b).length = 16 ∧ ((sixteenLamps b).map LampItem.tag).Nodup ∧
      1#24 ∈ (sixteenLamps b).map LampItem.tag ∧ 99#24 ∉ (sixteenLamps b).map LampItem.tag) ∧
    busy.ItemZone 0x1A2B01#24 0 4 ∧ busy.ItemZone 0x1A2B02#24 9 9 := by
  refine ⟨by decide +kernel, ?_, ?_⟩ <;> unfold State.ItemZone <;> simp only [all_some] <;> decide +kernel

/-- R14: the oldest BUSY item leaves a full list, and without one the oldest item. -/
theorem test_full_lamps : (addLampItem { tag := 99#24, kind := .busy } (sixteenLamps true)).map LampItem.tag
      = [1#24, 3, 4, 5, 6, 7, 8, 9, 10, 11, 12, 13, 14, 15, 16, 99] ∧
    ((addLampItem { tag := 99#24, kind := .busy } (sixteenLamps false)).map LampItem.tag).head? = some 2#24 := by
  decide +kernel

/-- ReleaseAndClose: number 0, a number of no call, and calls taken by this port and by another. -/
theorem witness_ReleaseAndClose :
    (asking busy 0x07 [0]).Serves .a .takeCall (frameOf 0x07 [0]) ∧ (asking busy 0x08 [255]).Serves .a .releaseCall (frameOf 0x08 [255]) ∧
    (asking busy 0x09 [0]).Serves .a .closeCall (frameOf 0x09 [0]) ∧ busy.call 255 = none ∧
    (asking (fiveCalls (.taken .a) .offered) 0x08 [1]).Serves .a .releaseCall (frameOf 0x08 [1]) ∧
    (asking (fiveCalls (.taken .a) .offered) 0x07 [1]).CallLaw ∧
    ((fiveCalls (.taken .a) .offered).call 1).map Call.state = some (.taken .a) ∧
    (asking (fiveCalls (.taken .b) .offered) 0x09 [1]).Serves .a .closeCall (frameOf 0x09 [1]) ∧
    ((fiveCalls (.taken .b) .offered).call 1).map Call.state = some (.taken .b) :=
  ⟨serves rfl rfl busy_calm, serves rfl rfl busy_calm, serves rfl rfl busy_calm, by decide +kernel,
   serves rfl rfl busy_calm, five_law (.taken .a, .offered) (by simp), by decide +kernel, serves rfl rfl busy_calm, by decide +kernel⟩

/-- DeclareRaises: states 0, 1, 2 and 3, from NORMAL and from ALERT, over a table without a RAISE action, and WITHDRAW over
an INBYE truck with a run. -/
theorem witness_DeclareRaises :
    (asking site 0x0A [0]).Serves .a .declare (frameOf 0x0A [0]) ∧ (asking site 0x0A [3]).Serves .a .declare (frameOf 0x0A [3]) ∧
    (asking site 0x0A [2]).Serves .a .declare (frameOf 0x0A [2]) ∧ (asking busy 0x0A [1]).Serves .a .declare (frameOf 0x0A [1]) ∧
    site.withdrawal.state.rank < 1 ∧ 1 ≤ busy.withdrawal.state.rank ∧ (∀ e, (site.image.entry e).action = .nothing) ∧
    (asking busy 0x0A [2]).Serves .a .declare (frameOf 0x0A [2]) ∧
    busy.trucks[2].run = some { cur := 3, last := 4 } ∧ busy.trucks[2].dir = .inbye :=
  ⟨serves rfl rfl rfl, serves rfl rfl rfl, serves rfl rfl rfl, serves rfl rfl busy_calm, by decide, by decide +kernel,
   by decide +kernel, serves rfl rfl busy_calm, busy_run2⟩

/-- R118: a truck's INBYE run is cut at the entry into WITHDRAW. -/
theorem test_withdraw_cuts : after (exec (.declare .a) (asking busy 0x0A [2])) (fun t =>
    (t.trucks[2].run, t.segments[4].holder)) = some (some { cur := 3, last := 3 }, none) := by decide +kernel

def inState (w : WState) (s : State) : State := { s with withdrawal := { s.withdrawal with state := w } }

/-- StandDownLowers: below, above and at the named state, with a cause and without. -/
theorem witness_StandDownLowers :
    (asking site 0x0B [3]).Serves .a .standDown (frameOf 0x0B [3]) ∧ (asking site 0x0B [1]).Serves .a .standDown (frameOf 0x0B [1]) ∧
    site.withdrawal.state.rank < 1 ∧ 1 < (inState .withdraw site).withdrawal.state.rank ∧
    (busy.withdrawal.state = .alert ∧ 2 ≤ busy.zones[4].level.rank) ∧
    (let s := asking (inState .alert site) 0x0B [1]
     s.withdrawal.state = .alert ∧ (∀ z : Zone, s.zones[z.1].level.rank = 0) ∧ s.isolated = false ∧
       ∀ r : RefugeNo, s.refuges[r.1].door ≠ .isSealed) :=
  ⟨serves rfl rfl rfl, serves rfl rfl rfl, by decide, by decide, by decide +kernel, by decide +kernel⟩

/-- BlockAndOpen: segment 23 and 24, a free segment, and one that carries MANUAL. -/
theorem witness_BlockAndOpen :
    (asking busy 0x0C [24]).Serves .a .blockSegment (frameOf 0x0C [24]) ∧
    (asking busy 0x0C [4]).Serves .a .blockSegment (frameOf 0x0C [4]) ∧
    (asking busy 0x0D [23]).Serves .a .openSegment (frameOf 0x0D [23]) ∧
    busy.segments[4].manual = false ∧ busy.segments[4].blocked = false ∧
    (busy.updSegment 23 fun g => { g with manual := true }).segments[23].manual = true :=
  ⟨serves rfl rfl busy_calm, serves rfl rfl busy_calm, serves rfl rfl busy_calm, by decide +kernel, by decide +kernel,
   by decide +kernel⟩

def truckIn (x : TruckState) : State := busy.updTruck 2 fun r => { r with state := x }

/-- TrucksReportedAndCleared, a report: an unknown identity, segments 23 and 24, a truck with a run, in it and outside it, and
one without. -/
theorem witness_TruckReports : busy.image.truckOf 0xFFFF = none ∧ busy.image.truckOf 501 = some 2 ∧ busy.RoadLaw ∧
    busy.trucks[2].run = some { cur := 3, last := 4 } ∧ busy.trucks[2].dir = .inbye ∧
    (23 : SegNo).1 = 23 ∧ (4 : SegNo) ∈ runSegs .inbye { cur := 3, last := 4 } ∧
    (23 : SegNo) ∉ runSegs .inbye { cur := 3, last := 4 } ∧ site.RoadLaw ∧ site.trucks[2].run = none := by
  have none_held : ∀ k : SegNo, site.segments[k.1].holder = none := by decide +kernel
  have none_run : ∀ k : TruckNo, site.trucks[k.1].run = none := by decide +kernel
  refine ⟨by decide +kernel, by decide +kernel, witness_road, busy_run2.1, busy_run2.2, rfl, by decide, by decide,
    ⟨⟨fun t r h => (nomatch (none_run t).symm.trans h), by decide +kernel, by decide +kernel, fun k t => ?_⟩,
      fun d h => (nomatch h), fun d n h => (nomatch h)⟩, by decide +kernel⟩
  dsimp only
  rw [none_held, none_run]
  simp

/-- R103, R108: a report asks for one segment more, and takes it. -/
theorem test_truck_report :
    let t := busy.truckReport 10 { identity := 501, segment := 4, position := 5, speed := 100, dir := .inbye, request := 2 }
    (t.trucks[2].run, t.segments[3].holder, t.segments[5].holder, t.trucks[2].grant.outcome)
      = (some { cur := 4, last := 5 }, none, some 2, .full) := by decide +kernel

/-- TrucksReportedAndCleared, CLEAR_TRUCK: a number of no truck, one without identity, and one in each state. -/
theorem witness_ClearTruck :
    (asking busy 0x0E [16]).Serves .a .clearTruck (frameOf 0x0E [16]) ∧
    (asking busy 0x0E [15]).Serves .a .clearTruck (frameOf 0x0E [15]) ∧ busy.image.identity 15 = none ∧
    (asking busy 0x0E [2]).Serves .a .clearTruck (frameOf 0x0E [2]) ∧ busy.image.identity 2 ≠ none ∧
    ∀ x ∈ [TruckState.active, .unknown, .lost], (truckIn x).trucks[2].state = x :=
  ⟨serves rfl rfl busy_calm, serves rfl rfl busy_calm, by decide +kernel, serves rfl rfl busy_calm, by decide +kernel,
   by decide +kernel⟩

/-! Settings. -/

/-- EditRequests: no edit, an edit of this port and one of another, and a line that is calibrating. -/
theorem witness_EditRequests :
    (asking site 0x10 []).Serves .a .editOpen (frameOf 0x10 []) ∧ site.settings.edit = none ∧
    (site.line .one).slot = none ∧ (site.line .two).slot = none ∧ ((calibrating site).line .one).slot.isSome = true ∧
    (editing .a section4 site).settings.edit = some { holder := .a, shadow := section4, timer := 0 } ∧
    (editing .b section4 site).settings.edit = some { holder := .b, shadow := section4, timer := 0 } ∧
    (asking (editing .a section4 site) 0x11 [7, 15, 4, 0, 1, 0, 0]).Serves .a .editWrite (frameOf 0x11 [7, 15, 4, 0, 1, 0, 0]) ∧
    recordSize 7 15 = some 4 ∧ recordSize 7 16 = none ∧
    (asking (editing .a section4 site) 0x11 [7, 16, 0]).Serves .a .editWrite (frameOf 0x11 [7, 16, 0]) ∧
    (asking (editing .a section4 site) 0x13 []).Serves .a .editCancel (frameOf 0x13 []) :=
  ⟨serves rfl rfl rfl, rfl, rfl, rfl, rfl, rfl, rfl, serves rfl rfl rfl, by decide, by decide, serves rfl rfl rfl,
   serves rfl rfl rfl⟩

/-- CommitsRefusedAndTaken, a refusal: no edit, another holder, a failing check, and a road in use by its segments and by an
identity, over outputs that have been judged. -/
theorem witness_CommitRefused :
    ((asking site 0x12 []).settle.OutputLaws ∧ (asking site 0x12 []).settle.Serves .a .editCommit (frameOf 0x12 []) ∧
      site.settings.edit = none) ∧
    (∀ p img, let s := asking (editing p img busy) 0x12 []
      (s.settle.OutputLaws ∧ s.settle.Serves .a .editCommit (frameOf 0x12 [])) ∧
      s.settle.settings.edit = some { holder := p, shadow := img, timer := 0 }) ∧
    (section4.write 1 0 [5, 0, 0, 0]).firstFailure.isSome = true ∧ Image.default.firstFailure = none ∧
    Image.default.road ≠ busy.image.road ∧ busy.segments[3].holder ≠ none ∧
    busy.trucks[2].state ≠ .unknown ∧ Image.default.identity 2 ≠ busy.image.identity 2 := by
  refine ⟨⟨State.settle_outputLaws _, (serves_settled (serves rfl rfl rfl)).2, rfl⟩, fun p img => ⟨?_, ?_⟩, by decide +kernel,
    by decide +kernel, by decide +kernel, by decide +kernel, by decide +kernel, by decide +kernel⟩
  · exact serves_settled (serves rfl rfl busy_calm)
  · exact congrArg Settings.edit ((State.settle_same _).same .settings (by decide))

/-- CommitsRefusedAndTaken, a commit that passes: in RUNNING, and the first one; an entry that it changes, and one that it
leaves. -/
theorem witness_CommitTaken :
    (asking (editing .a section4 site) 0x12 []).Serves .a .editCommit (frameOf 0x12 []) ∧
    (editing .a section4 site).settings.edit = some { holder := .a, shadow := section4, timer := 0 } ∧
    section4.firstFailure = none ∧ (editing .a section4 site).roadInUse section4 = false ∧
    (editing .a section4 site).supply.phase = .running ∧
    (let s := editing .a section4 { State.reset with supply := { Supply.cold with phase := .unconfigured } }
     (asking s 0x12 []).Serves .a .editCommit (frameOf 0x12 []) ∧ s.roadInUse section4 = false ∧ s.supply.phase = .unconfigured) ∧
    (let s := watching 1 [0, 16, 2, 0, 0, 0] [6, 0, 0, 0]
     s.image.entry 0 ≠ section4.entry 0 ∧ s.image.entry 23 = section4.entry 23 ∧ s.roadInUse section4 = false) :=
  ⟨serves rfl rfl rfl, rfl, test_section4_valid, by decide +kernel, rfl,
   ⟨⟨rfl, rfl, rfl, rfl, .inr rfl, fun h => (nomatch h), fun h => (nomatch h), rfl, rfl⟩, by decide +kernel, rfl⟩,
   by decide +kernel⟩

/-- `section4` with point 17 on another channel and with another hysteresis, or without a station; point 18 in use; truck 2
without identity; another panel for refuge 0; and a truck_lost of 2 s. -/
def reworked (inUse : Bool) : Image :=
  let point := fun (station : List Nat) (ch hyst : Nat) => (station ++ [ch, 0, 4] ++ n16 205 ++ n16 500 ++ [4] ++ n16 125 ++
    n16 150 ++ n16 200 ++ n16 hyst ++ [3, 1] ++ n16 30 ++ [64, 0]).map byte
  ((((((section4.write 2 17 (point (if inUse then [1, 3] else [0xFF, 0xFF]) 3 5)).write 2 18 (point [1, 3] 1 10)).write 7 2
    ([0xFF, 0xFF, 0, 0].map byte)).write 1 19 ([0xFF, 0, 0, 0].map byte)).write 1 20 ([4, 0, 6, 0].map byte)).write 1 62
    ([3, 3, 7, 12].map byte ++ List.replicate 28 0)).write 11 0
      (defaultTiming.take 16 ++ [byte 2] ++ defaultTiming.drop 17)

/-- CommitsRefusedAndTaken, what the image changes: a point moved, put into use or taken out of it, a threshold in use and
one absent, a truck without identity, one whose lost time has run out, and a refuge with another panel and with the same. -/
theorem witness_CommitImage :
    let s := editing .a (reworked true) site
    (asking s 0x12 []).Serves .a .editCommit (frameOf 0x12 []) ∧ s.roadInUse (reworked true) = false ∧
    (∀ b, (reworked b).firstFailure = none) ∧ s.supply.phase = .running ∧
    (s.image.point 17).channel ≠ ((reworked true).point 17).channel ∧ ((reworked true).point 17).threshold .warn = some 125 ∧
    (s.image.point 17).hysteresis ≠ ((reworked true).point 17).hysteresis ∧ (s.image.point 17).station ≠ none ∧
    ((reworked true).point 17).station ≠ none ∧ ((reworked false).point 17).station = none ∧
    (s.image.point 18).station = none ∧ ((reworked true).point 18).station ≠ none ∧
    (reworked true).identity 2 = none ∧ s.image.truckLost = 8 ∧ (reworked true).truckLost = 2 ∧
    s.image.panel 0 = some 19 ∧ (reworked true).panel 0 = some 20 ∧ s.image.panel 1 = (reworked true).panel 1 :=
  ⟨serves rfl rfl rfl, by decide +kernel⟩

def faulted (w : Option Pass) : State := { site with monitor := { Monitor.cold with fault := true, pass := w } }

/-- An image without a record, whose bytes are none. -/
def noRecords : Image :=
  { stations := [], points := [], compensation := [], dwell := [], zones := [], road := [], trucks := [], refuges := []
    interlock := [], outputs := [], timing := [], faultEnables := [] }

/-- R156, R169: on an idle line the DONE of a CHECK_CLEAR goes out ahead of the notice that the latch is clear. -/
theorem test_check_clear_answer :
    let s := onA { idle with
      settings := { active := some noRecords, reference := some noRecords.crc, edit := none }
      monitor := { Monitor.cold with fault := true, pass := some (.checkClear (some (.a, 7#8))) } } []
    after (exec .integrityPassComplete s) (fun t => ((t.port .a).sent.length, (t.port .a).held.length, lastResult t,
      ((t.port .a).notices.map Prod.snd).head?)) = some (1, 0, some .done, some .settingsCleared) := by decide +kernel

/-- IntegrityPasses: the latch clear; a CHECK_CLEAR of port B in flight; none in flight; and the two kinds of a pass. -/
theorem witness_IntegrityPasses :
    (asking site 0x14 []).Serves .a .checkClear (frameOf 0x14 []) ∧ site.monitor.fault = false ∧
    (asking (faulted (some (.checkClear (some (.b, 1#8))))) 0x14 []).Serves .a .checkClear (frameOf 0x14 []) ∧
    (faulted (some (.checkClear (some (.b, 1#8))))).monitor.fault = true ∧
    (asking (faulted none) 0x14 []).Serves .a .checkClear (frameOf 0x14 []) ∧ (faulted none).monitor.pass = none ∧
    (faulted (some .regular)).monitor.pass = some .regular ∧
    (faulted (some (.checkClear (some (.a, 7#8))))).monitor.pass = some (.checkClear (some (.a, 7#8))) :=
  ⟨serves rfl rfl rfl, rfl, ⟨rfl, rfl, rfl, rfl, .inl rfl, fun h => (nomatch h), fun h => (nomatch h), rfl, rfl⟩, rfl,
   serves rfl rfl rfl, rfl, rfl, rfl⟩

/-- FullReset: in NORMAL and in ALERT. -/
theorem witness_FullReset : (asking site 0x15 []).Serves .a .fullReset (frameOf 0x15 []) ∧ site.withdrawal.state = .normal ∧
    (asking busy 0x15 []).Serves .a .fullReset (frameOf 0x15 []) ∧ busy.withdrawal.state ≠ .normal :=
  ⟨serves rfl rfl rfl, rfl, serves rfl rfl busy_calm, by decide +kernel⟩

/-! Supply. -/

/-- The station of `polling`, its poll ended, with the battery poll mask empty or full. -/
def unpolledSite (mask : Nat) : State :=
  { (polling site).updLine .one fun l => { l with poll := none, state := .gap } with
    settings := { site.settings with active := some (section4.write 11 0
      ([3, 0, 100, 7, 208, mask / 256, mask % 256].map byte ++ (defaultTiming.drop 7))) } }

/-- MainsLowToBattery: a polled station outside the mask, and one inside. -/
theorem witness_MainsLowToBattery : ∀ mask ∈ [0, 0xFFFF],
    let s := unpolledSite mask
    s.supply.phase = .running ∧ s.supply.state = .mains ∧ s.supply.battLow = false ∧ s.stations[2].isSome = true ∧
    s.polled 2 = true ∧ inMask s.image.batteryMask 4 = decide (mask = 0xFFFF) ∧ s.pollOf 2 = none := by decide +kernel

/-- HoldupEntered: each of the two inputs, with a calibration in flight and a line in GAP. -/
theorem witness_HoldupEntered :
    site.supply.phase = .running ∧
    ({ site with supply := { site.supply with battLow := true } }).supply.state = .mains ∧
    ({ site with supply := { site.supply with battLow := true } }).supply.battLow = true ∧
    (supplied site .battery).supply.state = .battery ∧ ((inGap 0 .battery).line .two).state = .gap ∧
    ((calibrating site).line .one).slot.isSome = true := by decide +kernel

/-- MainsHighAndBattLow: each supply state, and a polled station that is SKIPPED. -/
theorem witness_MainsHighAndBattLow : (∀ x, (supplied site x).supply.state = x ∧ (supplied site x).supply.phase = .running) ∧
    (polling site).polled 2 = true ∧
    ((polling site).updStation 2 fun r => { r with state := .skipped }).stations[2].map StationRec.state = some .skipped :=
  ⟨fun _ => ⟨rfl, rfl⟩, by decide +kernel, by decide +kernel⟩

/-- A section in HOLDUP, both lines STOPPED, with MAINS_OK high again. -/
def quietSite : State :=
  { supplied busy .holdup with
    lines := { one := { LineRec.cold with state := .stopped }, two := { LineRec.cold with state := .stopped } }
    supply := { busy.supply with state := .holdup, save := .quiet, mainsOk := true } }

/-- SaveStages: a save that waits for the lines, and one that is writing, with each level of MAINS_OK. -/
theorem witness_SaveStages : quietSite.supply.state = .holdup ∧ quietSite.supply.save = .quiet ∧
    (quietSite.line .one).state = .stopped ∧ (quietSite.line .two).state = .stopped ∧
    (quietSite.setSave (.writing quietSite.saved 1)).supply.save = .writing quietSite.saved 1 ∧
    quietSite.supply.mainsOk = true ∧ (quietSite.setMains false).supply.mainsOk = false :=
  ⟨rfl, rfl, rfl, rfl, rfl, rfl, rfl⟩

def starting (phase : Phase) (kind : StartKind) (store : Store) : State :=
  { State.reset with supply := { Supply.cold with
    phase := phase, store := store, start := { Supply.cold.start with kind := kind } } }

/-- StartsBegin: a FULL_RESET under way, and a store with and without its mark. -/
theorem witness_StartsBegin : (resetting idle).supply.resetPending = some .b ∧ ((resetting idle).port .b).held = [] ∧
    (starting .selfTest .cold (Store.written idle.saved 0)).supply.store.mark = true ∧ State.reset.supply.store.mark = false :=
  ⟨rfl, rfl, rfl, rfl⟩

/-- SelfTestEnds: both kinds of a start, and a RESTORE of a store that holds nothing. -/
theorem witness_SelfTestEnds :
    (starting .selfTest .warm .empty).supply.phase = .selfTest ∧ (starting .selfTest .warm .empty).supply.start.kind = .warm ∧
    (starting .selfTest .cold .empty).supply.start.kind = .cold ∧ (starting .restore .warm .empty).supply.phase = .restore ∧
    (∀ d, (starting .restore .warm .empty).supply.store.data = some d →
      (starting .restore .warm .empty).supply.store.check ≠
        storeCheck d (starting .restore .warm .empty).supply.store.callsLost) :=
  ⟨rfl, rfl, rfl, rfl, fun _ h => (nomatch h)⟩

/-- RestoreSucceeds: the store that a save of `busy` has written, over cold points. -/
theorem witness_RestoreSucceeds :
    let s := starting .restore .warm (Store.written busy.saved 1)
    s.supply.phase = .restore ∧ s.supply.store.data = some busy.saved ∧
    s.supply.store.check = storeCheck busy.saved s.supply.store.callsLost ∧ (∀ pt : PointNo, s.points[pt.1] = PointRt.cold) ∧
    busy.saved.withdrawal.state ≠ .withdraw ∧ ∀ e, ((busy.saved.image.getD Image.default).entry e).action = .nothing :=
  ⟨rfl, rfl, rfl, fun _ => Vector.getElem_replicate .., by decide +kernel, by decide +kernel⟩

/-- RestoreSucceeds: the same save in WITHDRAW, with a truck on its way INBYE. -/
theorem witness_RestoreWithdraw :
    let d := (inState .withdraw busy).saved
    let s := starting .restore .warm (Store.written d 1)
    s.supply.phase = .restore ∧ s.supply.store.data = some d ∧ s.supply.store.check = storeCheck d s.supply.store.callsLost ∧
    (∀ pt : PointNo, s.points[pt.1] = PointRt.cold) ∧ d.withdrawal.state = .withdraw ∧
    d.trucks[2].run = some { cur := 3, last := 4 } ∧ d.trucks[2].dir = .inbye :=
  ⟨rfl, rfl, rfl, fun _ => Vector.getElem_replicate .., rfl, busy_run2.1, busy_run2.2⟩

theorem saveCopy_next (s : State) : ∃ t, exec .saveCopy s = .next t := ⟨_, State.when_next _ _ s⟩

theorem saveComplete_next (s : State) : ∃ t, exec .saveComplete s = .next t := by
  show ∃ t, execSaveComplete s = .next t
  unfold execSaveComplete
  split <;> exact ⟨_, rfl⟩

theorem selfTestComplete_next (s : State) : ∃ t, exec (.selfTestComplete false) s = .next t := ⟨_, State.when_next _ _ s⟩

theorem restoreComplete_next (s : State) : ∃ t, exec .restoreComplete s = .next t := ⟨_, State.when_next _ _ s⟩

/-- HoldupRestartKeeps: the four commands answer next states one after the other, from a state outside WITHDRAW over a table
without a BLOCK action. -/
theorem witness_HoldupRestartKeeps : ∃ a b c e, quietSite.supply.state = .holdup ∧ quietSite.supply.save = .quiet ∧
    (quietSite.line .one).state = .stopped ∧ (quietSite.line .two).state = .stopped ∧ quietSite.supply.mainsOk = true ∧
    exec .saveCopy quietSite = .next a ∧ exec .saveComplete a = .next b ∧ exec (.selfTestComplete false) b = .next c ∧
    exec .restoreComplete c = .next e ∧ quietSite.withdrawal.state ≠ .withdraw ∧
    ∀ n, (quietSite.image.entry n).action = .nothing := by
  obtain ⟨a, ha⟩ := saveCopy_next quietSite
  obtain ⟨b, hb⟩ := saveComplete_next a
  obtain ⟨c, hc⟩ := selfTestComplete_next b
  obtain ⟨e, he⟩ := restoreComplete_next c
  exact ⟨a, b, c, e, rfl, rfl, rfl, rfl, rfl, ha, hb, hc, he, by decide +kernel, by decide +kernel⟩

end Sys2Proof.Tests
end

section
/-!
PROOFS. The readings pipeline (R20 to R30): what a sample makes of each field of a point, what the smoothing step is, and
the statements about linearising, compensating and smoothing.
-/

namespace Sys2Proof.Machine

/-! ### The fields after a sample -/

/-- R27: the clamped v2 of a sample; it depends on the count and the temperature, and on nothing that the point holds. -/
def sampleV2 (cfg : PointCfg) (t : CompTable) (temp : Option Int) (raw : Nat) : Nat :=
  let v1 := linearise raw cfg.zero cfg.span
  min (compensate v1 ((tableFactor t temp v1).getD 1024)) cfg.kind.fullScale

section Fields

variable (cfg : PointCfg) (t : CompTable) (temp : Option Int) (raw : Nat) (p : PointRt)

@[simp] theorem pipeline_v1 : (pipeline cfg t temp raw p).v1 = some (linearise raw cfg.zero cfg.span) := rfl

@[simp] theorem pipeline_factor :
    (pipeline cfg t temp raw p).factor = some ((tableFactor t temp (linearise raw cfg.zero cfg.span)).getD 1024) := rfl

@[simp] theorem pipeline_v2 : (pipeline cfg t temp raw p).v2 = some (sampleV2 cfg t temp raw) := rfl

@[simp] theorem pipeline_reseed : (pipeline cfg t temp raw p).reseed = false := rfl

@[simp] theorem pipeline_drift : (pipeline cfg t temp raw p).flags.drift = driftTest raw cfg.zero cfg.driftTol := rfl

/-- R21: the tolerance of DRIFT reaches no other field. -/
theorem pipeline_driftTol_frame (tol : Nat) :
    let q := pipeline cfg t temp raw p
    let q' := pipeline { cfg with driftTol := tol } t temp raw p
    { q' with flags := { q'.flags with drift := q.flags.drift } } = q := rfl

theorem sampleV2_le_fullScale : sampleV2 cfg t temp raw ≤ cfg.kind.fullScale := Nat.min_le_right ..

variable {cfg t temp raw p}

theorem pipeline_v2_of_factor {v1 factor : Nat} (h1 : (pipeline cfg t temp raw p).v1 = some v1)
    (hf : (pipeline cfg t temp raw p).factor = some factor) :
    (pipeline cfg t temp raw p).v2 = some (min (compensate v1 factor) cfg.kind.fullScale) := by
  obtain rfl := Option.some.inj h1
  obtain rfl := Option.some.inj hf
  rfl

theorem pipeline_overRange_iff {v1 factor : Nat} (h1 : (pipeline cfg t temp raw p).v1 = some v1)
    (hf : (pipeline cfg t temp raw p).factor = some factor) :
    (pipeline cfg t temp raw p).flags.overRange = true ↔ raw = 4095 ∨ cfg.kind.fullScale < compensate v1 factor := by
  obtain rfl := Option.some.inj h1
  obtain rfl := Option.some.inj hf
  simp only [pipeline, Bool.or_eq_true, decide_eq_true_eq]

/-- R28: a point without an s, or with a re-seed pending, takes v2. -/
theorem pipeline_s_of_fresh (h : p.s = none ∨ p.reseed = true) :
    (pipeline cfg t temp raw p).s = some (sampleV2 cfg t temp raw) := by
  obtain h | h := h <;> simp only [pipeline, sampleV2, h, ite_self, if_true]

/-- R29: with no old s there is no rise. -/
theorem pipeline_rise_of_fresh (h : p.s = none ∨ p.reseed = true) : (pipeline cfg t temp raw p).rise = none := by
  obtain h | h := h <;> simp only [pipeline, h, ite_self, if_true, Option.map_none]

/-- R28: any other point goes on from its s. -/
theorem pipeline_s_of_held {old : Nat} (hs : p.s = some old) (hr : p.reseed = false) :
    (pipeline cfg t temp raw p).s = some (smooth old (sampleV2 cfg t temp raw) cfg.weight) := by
  simp only [pipeline, sampleV2, hs, hr, Bool.false_eq_true, if_false]

/-- R29: the rise is taken between the old s and the new one. -/
theorem pipeline_rise_of_held {old : Nat} (hs : p.s = some old) (hr : p.reseed = false) :
    (pipeline cfg t temp raw p).rise =
      some (riseOf cfg.kind.rising old (smooth old (sampleV2 cfg t temp raw) cfg.weight)) := by
  simp only [pipeline, sampleV2, hs, hr, Bool.false_eq_true, if_false, Option.map_some]

end Fields

/-! ### Linearising (R20, R21) -/

theorem linearise_of_le {raw zero_ span : Nat} (h : zero_ ≤ raw) :
    linearise raw zero_ span = (raw - zero_) * span / 4096 := if_pos h

theorem linearise_of_lt {raw zero_ span : Nat} (h : raw < zero_) : linearise raw zero_ span = 0 :=
  if_neg (Nat.not_le.mpr h)

theorem linearise_span_zero (raw zero_ : Nat) : linearise raw zero_ 0 = 0 := by
  simp only [linearise, Nat.mul_zero, Nat.zero_div, ite_self]

theorem driftTest_iff {raw zero_ tol : Nat} : driftTest raw zero_ tol = true ↔ raw < zero_ ∧ tol < zero_ - raw :=
  decide_eq_true_iff

theorem driftTest_tol_zero_iff {raw zero_ : Nat} : driftTest raw zero_ 0 = true ↔ raw < zero_ := by
  rw [driftTest_iff]; omega

/-- Settles O16, from v1 and DRIFT after a sample. -/
theorem lineariseAndDrift : Obligations.LineariseAndDrift := by
  intro cfg t temp raw p
  refine ⟨fun h => ?above, fun h => ?below, fun h => ?noSpan, driftTest_iff, fun tol => ⟨fun h => ?tolZero, ?frame⟩⟩
  case above => rw [pipeline_v1, linearise_of_le h]
  case below => rw [pipeline_v1, linearise_of_lt h]
  case noSpan => rw [pipeline_v1, h, linearise_span_zero]
  case tolZero => subst h; exact driftTest_tol_zero_iff
  case frame => exact pipeline_driftTol_frame cfg t temp raw p tol

/-! ### Compensating and the rise (R27, R29, R30) -/

/-- Settles O17: the first half from v2 and OVER_RANGE after a sample, the second by whether the point has an s to go on
from. -/
theorem compensateAndRise : Obligations.CompensateAndRise := by
  refine ⟨fun cfg t temp raw p v1 factor h1 hf => ⟨pipeline_v2_of_factor h1 hf, pipeline_overRange_iff h1 hf⟩,
    fun cfg t temp raw p => ⟨pipeline_reseed .., pipeline_rise_of_fresh, fun old hs hr => ?held⟩⟩
  case held => exact ⟨_, pipeline_s_of_held hs hr, pipeline_rise_of_held hs hr⟩

/-! ### The smoothing step (R28) -/

/-- R28: the signed step of a sample, truncated towards zero, and one unit where that would be 0. -/
def smoothStep (s v2 w : Nat) : Int :=
  let step : Int := (((v2 : Int) - s) * w).tdiv 16
  if step ≠ 0 then step else if s < v2 then 1 else if v2 < s then -1 else 0

theorem smooth_eq_toNat (s v2 w : Nat) : smooth s v2 w = ((s : Int) + smoothStep s v2 w).toNat := by
  simp only [smooth, smoothStep, ite_not]

/-- The size of the step over a distance d: the share of w sixteenths, at least one unit unless d is 0. -/
def smoothMove (d w : Nat) : Nat := max (min d 1) (d * w / 16)

@[simp] theorem smoothMove_zero (w : Nat) : smoothMove 0 w = 0 := by unfold smoothMove; omega

theorem smoothMove_pos {d : Nat} (w : Nat) (h : 0 < d) : 0 < smoothMove d w := by
  unfold smoothMove; omega

/-- R28: the step is at most the distance, because w is at most 16. -/
theorem smoothMove_le (d : Nat) {w : Nat} (hw : w ≤ 16) : smoothMove d w ≤ d := by
  have share : d * w / 16 ≤ d := Nat.div_le_of_le_mul (by rw [Nat.mul_comm 16]; exact Nat.mul_le_mul_left d hw)
  unfold smoothMove; omega

theorem smoothMove_sixteen (d : Nat) : smoothMove d 16 = d := by
  unfold smoothMove; omega

theorem smoothStep_of_le {s v2 : Nat} (w : Nat) (h : s ≤ v2) : smoothStep s v2 w = smoothMove (v2 - s) w := by
  have share : (((v2 : Int) - s) * w).tdiv 16 = ((v2 - s) * w / 16 : Nat) := by
    rw [← Int.ofNat_sub h]; rfl
  rw [smoothStep, share, smoothMove]
  omega

theorem smoothStep_of_ge {s v2 : Nat} (w : Nat) (h : v2 ≤ s) : smoothStep s v2 w = -smoothMove (s - v2) w := by
  have share : (((v2 : Int) - s) * w).tdiv 16 = -((s - v2) * w / 16 : Nat) := by
    rw [← Int.neg_sub, Int.neg_mul, Int.neg_tdiv, ← Int.ofNat_sub h]; rfl
  rw [smoothStep, share, smoothMove]
  omega

theorem smooth_of_le {s v2 : Nat} (w : Nat) (h : s ≤ v2) : smooth s v2 w = s + smoothMove (v2 - s) w := by
  rw [smooth_eq_toNat, smoothStep_of_le w h]; omega

theorem smooth_of_ge {s v2 : Nat} (w : Nat) (h : v2 ≤ s) : smooth s v2 w = s - smoothMove (s - v2) w := by
  rw [smooth_eq_toNat, smoothStep_of_ge w h]; omega

/-- R28: the new s lies between the old s and v2. -/
theorem smooth_between (s v2 : Nat) {w : Nat} (hw : w ≤ 16) : min s v2 ≤ smooth s v2 w ∧ smooth s v2 w ≤ max s v2 := by
  obtain h | h := Nat.le_total s v2
  · have le := smoothMove_le (v2 - s) hw
    rw [smooth_of_le w h]; omega
  · have le := smoothMove_le (s - v2) hw
    rw [smooth_of_ge w h]; omega

theorem smooth_sixteen (s v2 : Nat) : smooth s v2 16 = v2 := by
  obtain h | h := Nat.le_total s v2
  · rw [smooth_of_le 16 h, smoothMove_sixteen]; omega
  · rw [smooth_of_ge 16 h, smoothMove_sixteen]; omega

@[simp] theorem smooth_self (v2 w : Nat) : smooth v2 v2 w = v2 := by
  rw [smooth_of_le w (Nat.le_refl v2), Nat.sub_self, smoothMove_zero, Nat.add_zero]

/-- R28: the new s is the old s and the step; the sum is not negative, so nothing is cut off below 0. -/
theorem smooth_eq_add_step (s v2 : Nat) {w : Nat} (hw : w ≤ 16) : (smooth s v2 w : Int) = s + smoothStep s v2 w := by
  obtain h | h := Nat.le_total s v2
  · rw [smooth_of_le w h, smoothStep_of_le w h, Int.natCast_add]
  · have le := smoothMove_le (s - v2) hw
    rw [smooth_of_ge w h, smoothStep_of_ge w h]; omega

/-- The distance from s to v2, the number of samples that R28 allows a run of equal v2. -/
def smoothGap (s v2 : Nat) : Nat := (v2 - s) + (s - v2)

@[simp] theorem smoothGap_self (v2 : Nat) : smoothGap v2 v2 = 0 := by
  rw [smoothGap, Nat.sub_self]

theorem eq_of_smoothGap_eq_zero {s v2 : Nat} (h : smoothGap s v2 = 0) : s = v2 := by
  unfold smoothGap at h; omega

/-- The key to R28's arrival: while s is off v2, a sample brings it nearer by one unit at least. -/
theorem smoothGap_smooth_lt {s v2 w : Nat} (hw : w ≤ 16) (h : s ≠ v2) :
    smoothGap (smooth s v2 w) v2 < smoothGap s v2 := by
  unfold smoothGap
  obtain h | h := Nat.lt_or_gt_of_ne h
  · have le := smoothMove_le (v2 - s) hw
    have pos := smoothMove_pos w (Nat.sub_pos_of_lt h)
    rw [smooth_of_le w (Nat.le_of_lt h)]; omega
  · have le := smoothMove_le (s - v2) hw
    have pos := smoothMove_pos w (Nat.sub_pos_of_lt h)
    rw [smooth_of_ge w (Nat.le_of_lt h)]; omega

theorem smoothGap_smooth_le_pred {s v2 w n : Nat} (hw : w ≤ 16) (h : smoothGap s v2 ≤ n + 1) :
    smoothGap (smooth s v2 w) v2 ≤ n := by
  by_cases heq : s = v2
  · subst heq
    rw [smooth_self, smoothGap_self]; exact Nat.zero_le n
  · exact Nat.le_of_lt_succ (Nat.lt_of_lt_of_le (smoothGap_smooth_lt hw heq) h)

/-! ### Runs of samples (R28) -/

/-- Each sample of equal v2 uses up one of the units between s and v2; a run with as many samples ends at v2. -/
theorem pipeline_run_arrives {cfg : PointCfg} {t : CompTable} {v2 : Nat} (hw : cfg.weight ≤ 16)
    (samples : List (Option Int × Nat)) (hv : ∀ x ∈ samples, sampleV2 cfg t x.1 x.2 = v2) (p : PointRt) (old : Nat)
    (hs : p.s = some old) (hr : p.reseed = false) (hd : smoothGap old v2 ≤ samples.length) :
    (samples.foldl (fun q x => pipeline cfg t x.1 x.2 q) p).s = some v2 := by
  induction samples generalizing p old with
  | nil => rw [List.foldl_nil, hs, eq_of_smoothGap_eq_zero (Nat.le_zero.mp hd)]
  | cons x xs ih =>
    obtain ⟨hx, hxs⟩ := List.forall_mem_cons.mp hv
    have next : (pipeline cfg t x.1 x.2 p).s = some (smooth old v2 cfg.weight) := hx ▸ pipeline_s_of_held hs hr
    exact ih hxs _ _ next (pipeline_reseed ..) (smoothGap_smooth_le_pred hw hd)

/-- R28: s stays within full scale, since v2 lies there. -/
theorem pipeline_s_le_fullScale {cfg : PointCfg} (t : CompTable) (temp : Option Int) (raw : Nat) {p : PointRt}
    (hw : cfg.weight ≤ 16) (hp : ∀ old, p.s = some old → old ≤ cfg.kind.fullScale) :
    ∃ new, (pipeline cfg t temp raw p).s = some new ∧ new ≤ cfg.kind.fullScale := by
  have hv2 := sampleV2_le_fullScale cfg t temp raw
  by_cases fresh : p.s = none ∨ p.reseed = true
  · exact ⟨_, pipeline_s_of_fresh fresh, hv2⟩
  · obtain ⟨hs, hr⟩ := not_or.mp fresh
    obtain ⟨old, hs⟩ := Option.ne_none_iff_exists'.mp hs
    exact ⟨_, pipeline_s_of_held hs (eq_false_of_ne_true hr),
      Nat.le_trans (smooth_between old _ hw).2 (Nat.max_le.mpr ⟨hp old hs, hv2⟩)⟩

/-- Settles O19: the step is `smoothStep`, its size keeps s between its old value and v2, and a run arrives because every
sample shortens the distance to v2. -/
theorem smoothingApproaches : Obligations.SmoothingApproaches := by
  refine ⟨fun cfg t temp raw p => ⟨fun fresh => ?fresh, fun old hw hs hr => ?held, pipeline_s_le_fullScale t temp raw⟩,
    fun s v2 w _ hw => ?between, fun cfg t p samples old v2 _ hw hs hr hv hd => ?run⟩
  case fresh => exact ⟨pipeline_s_of_fresh fresh, pipeline_reseed ..⟩
  case held => exact ⟨_, _, pipeline_s_of_held hs hr, pipeline_v2 .., smooth_eq_add_step old _ hw⟩
  case between =>
    obtain ⟨lower, upper⟩ := smooth_between s v2 hw
    exact ⟨lower, upper, fun h => h ▸ smooth_sixteen s v2⟩
  case run =>
    have hv' : ∀ x ∈ samples, sampleV2 cfg t x.1 x.2 = v2 := fun x hx => Option.some.inj (hv x hx)
    exact pipeline_run_arrives hw samples hv' p old hs hr hd

end Sys2Proof.Machine
end
